-- ==== Sys2Proof/Word.lean ====
section
/-! DEFINITION. The data widths of the machine (00_scope.md rules R5, R7): a byte is 8 bits, a word 16
bits, a long 32 bits; a register field of an instruction is 4 bits (byte and word views) or 3 bits
(long registers). -/

namespace Sys2Proof

/-- 8 bits (R7). -/
abbrev Byte := BitVec 8

/-- 16 bits (R7); also a bus address (R60) and one word of an instruction (R100). -/
abbrev Word := BitVec 16

/-- 32 bits (R7). -/
abbrev Long := BitVec 32

/-- Half a byte: the unit in which the encoding tables are written (R103). -/
abbrev Nibble := BitVec 4

/-- A 4-bit register field: a byte view or a word view, fixed by the instruction (R22, R105). -/
abbrev Reg4 := BitVec 4

/-- A 3-bit register field: one of ER0 to ER7 (R22, R105). -/
abbrev Reg3 := BitVec 3

end Sys2Proof
end

