-- ==== Sys2Proof/Config.lean ====
section
/-! DEFINITION. What an implementation fixes: the named parameters of 00_scope.md rule R6, with the
defaults that the specification gives them, and the free values that stand for the results it calls
`any value` (93_implementation_defined.md U3, U4). -/

namespace Sys2Proof

/-- What executing a word sequence that no row matches does (R6, R301, decision D3). -/
inductive UndefinedOpcodePolicy where
  | nopAdvance2   -- PC ends 2 past the first word and the machine goes on
  | fault         -- the model stops and reports the same event
  deriving DecidableEq, Repr

/-- Which sign the N flag of DIVXS follows (R192, decision D28). -/
inductive DivxsNRule where
  | quotientSign
  | operandSignXor
  deriving DecidableEq, Repr

/-- How a result that the specification leaves open is settled (R6; 93_implementation_defined.md, opening
paragraph, U3 and U4): by the default it names; by a function of the inputs that the user of the model
passes, given as data, its values listed by input, any other input following the default; or not at all,
so that it is any value. Every function of the inputs is such a list (`exists_table` of
Laws/Arithmetic.lean). -/
inductive OpenResult (κ ν : Type) where
  | specDefault
  | given (table : List (κ × ν))
  | anyValue
  deriving DecidableEq, Repr

/-- The inputs of `daa_adjust` and `das_adjust`: C, H and the byte (R6, R185, R186). -/
structure AdjustInput where
  c : Bool
  h : Bool
  a : Byte
  deriving DecidableEq, Repr

/-- What they give: the addend and C after (R6, R185, R186). -/
structure Adjustment where
  addend : Byte
  cAfter : Bool
  deriving DecidableEq, Repr

/-- The inputs of `div_corner`: which divide it is, and its operands, zero-extended (R189 to R193). -/
structure DivideInput where
  /-- DIVXS, not DIVXU. -/
  signed : Bool
  /-- The `.W` form, whose destination is a long register. -/
  long : Bool
  dividend : Long
  divisor : Word
  deriving DecidableEq, Repr

/-- The parameters of the step relation (R6, R47). No instruction reads or writes this record as such;
a state carries it so that one statement about every state is a statement about every setting. -/
structure Params where
  /-- `SSSR_RESET` (R36, R324, decision D8). -/
  sssrReset : Byte
  /-- `SSU_RX_BYTE` (R328, decision D21). -/
  ssuRxByte : Byte
  /-- `FLASH_REG_READ` (R34, R72, decision D11). -/
  flashRegRead : Byte
  /-- `undefined_opcode_policy` (R301, decision D3). -/
  undefinedOpcode : UndefinedOpcodePolicy
  /-- `divxs_n_rule` (R192, decision D28). -/
  divxsN : DivxsNRule
  /-- `daa_adjust` (R185, decision D16); under `anyValue`, what U3 leaves open. -/
  daaAdjust : OpenResult AdjustInput Adjustment
  /-- `das_adjust` (R186, decision D16); under `anyValue`, what U3 leaves open. -/
  dasAdjust : OpenResult AdjustInput Adjustment
  /-- `div_corner`: the value of the destination on a zero divisor and on a quotient that does not fit,
  its low bits where the destination is a word (R189, U4, decision D17). -/
  divCorner : OpenResult DivideInput Long
  deriving DecidableEq, Repr

/-- The default of every parameter, as R6 lists them. -/
def Config.defaults : Params where
  sssrReset := 0x0C
  ssuRxByte := 0xFF
  flashRegRead := 0xFF
  undefinedOpcode := .nopAdvance2
  divxsN := .quotientSign
  daaAdjust := .specDefault
  dasAdjust := .specDefault
  divCorner := .specDefault

/-- The k-th free value of a run: nothing is known of it (assumption 2). A machine whose parameters say
`anyValue` takes its open results from here, one after another. -/
opaque Config.freeValue : Nat → BitVec 32

end Sys2Proof
end

