-- ==== Sys2Proof/Machine/State.lean ====
section
/-! DEFINITION. The state of the three blocks in scope (10_state.md) as plain data, the reasons a step
can stop, and the state after reset (10_state.md rule R45, 70_reset_and_hazards.md rule R350). -/

namespace Sys2Proof.Machine

/-- A memory: the listed bytes, by bus address, in rising order; no listed byte has the value that an
unlisted address reads as (`Memory.blank` of Machine/Ops.lean). -/
abbrev Memory := List Host.Cell

/-- The synchronous serial unit: seven registers and three hidden elements (R36, R42, R43). Each
register holds the byte stored; read masks apply when it is read (R317). -/
structure Ssu where
  /-- 0xF0E0, configuration part 1 (R37). -/
  sscrh : Byte
  /-- 0xF0E1, configuration part 2 (R38). -/
  sscrl : Byte
  /-- 0xF0E2, mode; bits 2:0 are CKS (R39). -/
  ssmr : Byte
  /-- 0xF0E3, enables (R40). -/
  sser : Byte
  /-- 0xF0E4, status: ORER 6, TEND 3, TDRE 2, RDRF 1, CE 0 (R41). -/
  sssr : Byte
  /-- 0xF0E9, receive data (R42). -/
  ssrdr : Byte
  /-- 0xF0EB, transmit data (R42). -/
  sstdr : Byte
  /-- The hidden shift register (R43). -/
  sstrsr : Byte
  /-- The hidden bit counter, 0 to 8 (R43). -/
  bitCounter : Nat
  /-- The hidden prescaler accumulator (R43). -/
  clockCounter : Nat
  deriving DecidableEq, Repr

/-- The whole machine. The last two fields are the model's own: the parameters of the step relation
(R47) and the number of free values taken so far (assumption 2). -/
structure State where
  /-- ER0 to ER7 (R20). -/
  er : Vector Long 8
  /-- The program counter: 32 bits, of which bits 31:24 are always 0 (R25). -/
  pc : Long
  /-- The condition-code register: I UI H U N Z V C, bit 7 down to bit 0 (R29). -/
  ccr : Byte
  /-- Whether the reset vector has been fetched (R32). -/
  initialized : Bool
  /-- The ROM image, bus addresses 0x0000 to 0xBFFF (R33). -/
  rom : Memory
  /-- The RAM, bus addresses 0xF780 to 0xFF7F (R35). -/
  ram : Memory
  /-- The synchronous serial unit (R36 to R43). -/
  ssu : Ssu
  /-- The parameters (R6, R47): the model's own field. -/
  params : Params
  /-- How many free values the run has taken: the model's own field. -/
  freeIndex : Nat
  deriving DecidableEq, Repr

/-- Why a step stops. -/
inductive Fault where
  /-- Raised by the decoder when no row matches, at `address` with first word `w0`, and only under the
  parameter setting `undefinedOpcode := fault` (R301, decision D3). Safe: the specification offers this
  policy so that nothing rests on the no-op. -/
  | undefinedOpcode (address : Long) (w0 : Word)
  deriving DecidableEq, Repr

/-- Why an instruction has no meaning. -/
inductive Refusal where
  /-- Raised by exec's arm for an instruction whose meaning is not written; safe. No arm raises it:
  every instruction of the opcode table has its meaning. -/
  | notModelled (mnemonic : String)
  deriving DecidableEq, Repr

/-- The SSU after reset (R36, R332): SSCRH = 0x08, SSSR = `SSSR_RESET`, everything else 0. -/
def Ssu.reset (p : Params) : Ssu where
  sscrh := 0x08
  sscrl := 0
  ssmr := 0
  sser := 0
  sssr := p.sssrReset
  ssrdr := 0
  sstdr := 0
  sstrsr := 0
  bitCounter := 0
  clockCounter := 0

/-- The state after `reset()` with parameters `p` and the ROM image `image` installed (R45, R350). -/
def State.resetWith (p : Params) (image : Memory) : State where
  er := Vector.replicate 8 0
  pc := 0
  ccr := 0x80
  initialized := false
  rom := image
  ram := []
  ssu := Ssu.reset p
  params := p
  freeIndex := 0

/-- The machine right after reset, with the default parameters and no ROM byte installed
(R45, R350, R351; the ROM image is a parameter with no default, R362 and assumption 3). -/
def State.reset : State :=
  State.resetWith Config.defaults []

end Sys2Proof.Machine
end

