-- ==== Sys2Proof/Machine/Ssu.lean ====
section
/-! DEFINITION. The synchronous serial unit: register reads and writes as the bus makes them, and the
clocked state machine (60_exceptions.md rules R316 to R332). Single bits of a byte are read and written
here too, since the unit's status register is the first to need it. -/

namespace Sys2Proof.Machine

/-- Bit `i` of a byte set to `x`, the other bits kept. -/
def setBit (b : Byte) (i : Nat) (x : Bool) : Byte :=
  if x then b ||| (1#8 <<< i) else b &&& ~~~(1#8 <<< i)

/-- The seven registers the bus reaches (R36). -/
inductive SsuReg where
  | sscrh | sscrl | ssmr | sser | sssr | ssrdr | sstdr
  deriving DecidableEq, Repr

/-- The bus address of a register (R36). -/
def SsuReg.addr : SsuReg → Word
  | .sscrh => 0xF0E0
  | .sscrl => 0xF0E1
  | .ssmr => 0xF0E2
  | .sser => 0xF0E3
  | .sssr => 0xF0E4
  | .ssrdr => 0xF0E9
  | .sstdr => 0xF0EB

/-- The bits of a register that a read exposes (R36, R317). -/
def SsuReg.readMask : SsuReg → Byte
  | .sscrh => 0xFF
  | .sscrl => 0x78
  | .ssmr => 0xE7
  | .sser => 0xEF
  | .sssr => 0x4F
  | .ssrdr => 0xFF
  | .sstdr => 0xFF

/-- The byte stored in a register (R317). -/
def Ssu.stored (u : Ssu) : SsuReg → Byte
  | .sscrh => u.sscrh
  | .sscrl => u.sscrl
  | .ssmr => u.ssmr
  | .sser => u.sser
  | .sssr => u.sssr
  | .ssrdr => u.ssrdr
  | .sstdr => u.sstdr

/-- SSSR bit 6: overrun (R41). -/
def Ssu.orer (u : Ssu) : Bool := u.sssr.getLsbD 6

/-- SSSR bit 3: 1 when Idle, 0 when Transferring (R41, R316). -/
def Ssu.tend (u : Ssu) : Bool := u.sssr.getLsbD 3

/-- SSSR bit 2: 0 while a byte is buffered in SSTDR (R41). -/
def Ssu.tdre (u : Ssu) : Bool := u.sssr.getLsbD 2

/-- SSSR bit 1: a byte has been received (R41). -/
def Ssu.rdrf (u : Ssu) : Bool := u.sssr.getLsbD 1

/-- CKS, SSMR bits 2:0 (R39, R322). -/
def Ssu.cks (u : Ssu) : Nat := (u.ssmr.extractLsb' 0 3).toNat

/-- SSSR with bit `i` set to `x`. -/
def Ssu.setStatus (u : Ssu) (i : Nat) (x : Bool) : Ssu :=
  { u with sssr := setBit u.sssr i x }

/-- `ssu_read(k)` (R317, R320 to R326): the stored byte under the read mask; reading SSRDR then clears
RDRF (R325). -/
def Ssu.read (u : Ssu) (k : SsuReg) : Byte × Ssu :=
  (u.stored k &&& k.readMask,
   match k with
   | .ssrdr => u.setStatus 1 false
   | .sscrh | .sscrl | .ssmr | .sser | .sssr | .sstdr => u)

/-- A write of SSTDR (R326): Idle, it starts a transfer; Transferring, it buffers the next byte. -/
def Ssu.writeSstdr (u : Ssu) (v : Byte) : Ssu :=
  if u.tend then
    { u with sstdr := v, sstrsr := v, sssr := setBit u.sssr 3 false, bitCounter := 0, clockCounter := 0 }
  else
    { u with sstdr := v, sssr := setBit u.sssr 2 false }

/-- `ssu_write(k, v)` (R317, R320 to R326): the byte is stored as given, but for SSSR, which keeps only
bits that were set and are written as 1 (R324), and SSTDR (R326). -/
def Ssu.write (u : Ssu) (k : SsuReg) (v : Byte) : Ssu :=
  match k with
  | .sscrh => { u with sscrh := v }
  | .sscrl => { u with sscrl := v }
  | .ssmr => { u with ssmr := v }
  | .sser => { u with sser := v }
  | .sssr => { u with sssr := u.sssr &&& v }
  | .ssrdr => { u with ssrdr := v }
  | .sstdr => u.writeSstdr v

/-- The prescaler's share of one tick (R328): add `1 << CKS`, and carry into the bit counter at 256. -/
def Ssu.advance (u : Ssu) : Ssu :=
  if 256 ≤ u.clockCounter + 2 ^ u.cks then
    { u with clockCounter := u.clockCounter + 2 ^ u.cks - 256, bitCounter := u.bitCounter + 1 }
  else
    { u with clockCounter := u.clockCounter + 2 ^ u.cks }

/-- End of a byte, transmit side (R328): a buffered byte goes on, otherwise the unit becomes Idle. -/
def Ssu.endTransmit (u : Ssu) : Ssu :=
  if u.tdre then u.setStatus 3 true
  else { u with sstrsr := u.sstdr, sssr := setBit u.sssr 2 true }

/-- End of a byte, receive side (R328): an unread byte is an overrun and stays; otherwise `rx` arrives. -/
def Ssu.endReceive (rx : Byte) (u : Ssu) : Ssu :=
  if u.rdrf then u.setStatus 6 true else { u with ssrdr := rx }

/-- What happens when eight bits have been shifted (R328). -/
def Ssu.endOfByte (rx : Byte) (u : Ssu) : Ssu :=
  { (u.endTransmit.endReceive rx).setStatus 1 true with bitCounter := 0 }

/-- `cycle()` of the unit (R328), with `rx` the parameter `SSU_RX_BYTE`. -/
def Ssu.cycle (rx : Byte) (u : Ssu) : Ssu :=
  if u.tend then u
  else if u.advance.bitCounter = 8 then u.advance.endOfByte rx
  else u.advance

end Sys2Proof.Machine
end

