-- ==== Sys2Proof/Machine/Ops.lean ====
section
/-! DEFINITION. The named operations over memory, the bus, registers, the program counter and the stack
(00_scope.md rule R8; 20_memory.md; 44_control_transfer.md rule R260), the one event the machine can
raise (60_exceptions.md rule R301) and the return from an exception frame (R268). -/

namespace Sys2Proof.Machine

/-! ## Memory in canonical form -/

/-- What an unlisted byte reads as: 0. For RAM that is its reset contents (R35, R45); for ROM it is the
byte of an image that lists nothing there (assumption 3). -/
def Memory.blank : Byte := 0

/-- The byte at bus address `a`. -/
def Memory.read : Memory → Nat → Byte
  | [], _ => Memory.blank
  | (b, v) :: m, a => if a = b then v else Memory.read m a

/-- Put the byte `v` at `a` before the first greater address. -/
def Memory.insertCell (a : Nat) (v : Byte) : Memory → Memory
  | [] => [(a, v)]
  | (b, w) :: m => if a < b then (a, v) :: (b, w) :: m else (b, w) :: Memory.insertCell a v m

/-- Every listed byte but those at `a`. -/
def Memory.erase (m : Memory) (a : Nat) : Memory :=
  m.filter (fun c => c.1 ≠ a)

/-- Store `v` at `a`; storing what an unlisted address reads as removes the entry. -/
def Memory.write (m : Memory) (a : Nat) (v : Byte) : Memory :=
  if v = Memory.blank then m.erase a else (m.erase a).insertCell a v

/-- Addresses strictly rising. -/
def Memory.rising : Memory → Bool
  | [] => true
  | [_] => true
  | (a, _) :: (b, w) :: m => decide (a < b) && Memory.rising ((b, w) :: m)

/-- The canonical form over the addresses `lo` to `hi`: rising, inside the range, and no entry equal to
what an unlisted address reads as. -/
def Memory.wf (lo hi : Nat) (m : Memory) : Bool :=
  m.rising && m.all (fun c => decide (lo ≤ c.1) && decide (c.1 ≤ hi) && decide (c.2 ≠ Memory.blank))

/-! ## The address map -/

/-- The five flash-control registers, which hold no state (R34). -/
inductive FlashReg where
  | flmcr1 | flmcr2 | flpwcr | ebr1 | fenr
  deriving DecidableEq, Repr

/-- What a bus address decodes to (R62). -/
inductive Target where
  | rom (i : Nat)
  | flash (k : FlashReg)
  | ssu (k : SsuReg)
  | ram (i : Nat)
  | openBus
  deriving DecidableEq, Repr

/-- The first bus address of RAM (R35). -/
def ramBase : Nat := 0xF780

/-- `decode(a)` by the table of R61 (R62). -/
def decodeAddr (a : Word) : Target :=
  if a.toNat ≤ 0xBFFF then .rom a.toNat
  else if a.toNat = 0xF020 then .flash .flmcr1
  else if a.toNat = 0xF021 then .flash .flmcr2
  else if a.toNat = 0xF022 then .flash .flpwcr
  else if a.toNat = 0xF023 then .flash .ebr1
  else if a.toNat = 0xF02B then .flash .fenr
  else if a.toNat = 0xF0E0 then .ssu .sscrh
  else if a.toNat = 0xF0E1 then .ssu .sscrl
  else if a.toNat = 0xF0E2 then .ssu .ssmr
  else if a.toNat = 0xF0E3 then .ssu .sser
  else if a.toNat = 0xF0E4 then .ssu .sssr
  else if a.toNat = 0xF0E9 then .ssu .ssrdr
  else if a.toNat = 0xF0EB then .ssu .sstdr
  else if ramBase ≤ a.toNat ∧ a.toNat ≤ 0xFF7F then .ram (a.toNat - ramBase)
  else .openBus

/-! ## The six bus operations -/

/-- `read8(a)` (R63): the byte, and the state after the read's side effect, if it has one (R77). -/
def State.read8 (s : State) (a : Word) : Byte × State :=
  match decodeAddr a with
  | .rom i => (s.rom.read i, s)
  | .ram i => (s.ram.read (ramBase + i), s)
  | .flash _ => (s.params.flashRegRead, s)
  | .ssu k => ((s.ssu.read k).1, { s with ssu := (s.ssu.read k).2 })
  | .openBus => (0xFF, s)

/-- `write8(a, v)` (R66): ROM, flash-control registers and open bus drop the byte (R69, R70, R72). -/
def State.write8 (s : State) (a : Word) (v : Byte) : State :=
  match decodeAddr a with
  | .rom _ => s
  | .ram i => { s with ram := s.ram.write (ramBase + i) v }
  | .flash _ => s
  | .ssu k => { s with ssu := s.ssu.write k v }
  | .openBus => s

/-- The even address of the word that holds `a` (R64). -/
def evenAddr (a : Word) : Word := a &&& 0xFFFE

/-- The odd address of the word that holds `a` (R64). -/
def oddAddr (a : Word) : Word := evenAddr a ||| 1

/-- `read16(a)` (R64): bit 0 of the address is dropped; the even byte is read first and is the high one. -/
def State.read16 (s : State) (a : Word) : Word × State :=
  let hi := s.read8 (evenAddr a)
  let lo := hi.2.read8 (oddAddr a)
  (hi.1 ++ lo.1, lo.2)

/-- `read32(a)` (R65): two word reads, high word first, the second address modulo 2^16 (R79). -/
def State.read32 (s : State) (a : Word) : Long × State :=
  let hi := s.read16 a
  let lo := hi.2.read16 (a + 2)
  (hi.1 ++ lo.1, lo.2)

/-- `write16(a, v)` (R67): the high byte to the even address, then the low byte to the odd one. -/
def State.write16 (s : State) (a : Word) (v : Word) : State :=
  (s.write8 (evenAddr a) (v.extractLsb' 8 8)).write8 (oddAddr a) (v.extractLsb' 0 8)

/-- `write32(a, v)` (R68): high word first. -/
def State.write32 (s : State) (a : Word) (v : Long) : State :=
  (s.write16 a (v.extractLsb' 16 16)).write16 (a + 2) (v.extractLsb' 0 16)

/-- `bus.cycle()` (R85): one cycle of the SSU. -/
def State.busCycle (s : State) : State :=
  { s with ssu := s.ssu.cycle s.params.ssuRxByte }

/-! ## General registers and their views -/

/-- `ER[n]` (R8, R21). -/
def State.reg (s : State) (n : Reg3) : Long := s.er[n.toNat]'(n.isLt)

/-- `ER[n] <- v` (R8). -/
def State.setReg (s : State) (n : Reg3) (v : Long) : State :=
  { s with er := s.er.set n.toNat v n.isLt }

/-- The general register that a 4-bit field's view lies in: its low three bits (R22). -/
def viewReg (r : Reg4) : Reg3 := r.setWidth 3

/-- `R16[r]` (R8, R22): r in 0..7 is the low half Rr, r in 8..15 the high half E(r-8). -/
def State.r16 (s : State) (r : Reg4) : Word :=
  if r.msb then (s.reg (viewReg r)).extractLsb' 16 16 else (s.reg (viewReg r)).extractLsb' 0 16

/-- `R16[r] <- v` (R8, R21): the other half is kept. -/
def State.setR16 (s : State) (r : Reg4) (v : Word) : State :=
  s.setReg (viewReg r)
    (if r.msb then v ++ (s.reg (viewReg r)).extractLsb' 0 16
     else (s.reg (viewReg r)).extractLsb' 16 16 ++ v)

/-- `R8[r]` (R8, R22): r in 0..7 is bits 15:8 of ERr, r in 8..15 bits 7:0 of ER(r-8). -/
def State.r8 (s : State) (r : Reg4) : Byte :=
  if r.msb then (s.reg (viewReg r)).extractLsb' 0 8 else (s.reg (viewReg r)).extractLsb' 8 8

/-- `R8[r] <- v` (R8, R21): the other 24 bits are kept. -/
def State.setR8 (s : State) (r : Reg4) (v : Byte) : State :=
  s.setReg (viewReg r)
    (if r.msb then (s.reg (viewReg r)).extractLsb' 8 24 ++ v
     else (s.reg (viewReg r)).extractLsb' 16 16 ++ v ++ (s.reg (viewReg r)).extractLsb' 0 8)

/-! ## Program counter, stack, free values -/

/-- A value reduced modulo 2^24, in 32 bits (R27). -/
def mod24 (t : Long) : Long := (t.setWidth 24).setWidth 32

/-- `pc <- t` (R27). -/
def State.setPc (s : State) (t : Long) : State := { s with pc := mod24 t }

/-- The 16 bits of PC that the bus sees and that a call pushes (R25, R265). -/
def State.pc16 (s : State) : Word := s.pc.setWidth 16

/-- `Push16(v)` (R260): ER7 is decremented on all 32 bits, then the word is stored where it points. -/
def State.push16 (s : State) (v : Word) : State :=
  (s.setReg 7 (s.reg 7 - 2)).write16 ((s.reg 7 - 2).setWidth 16) v

/-- `Pop16()` (R260): the word ER7 points at, then ER7 is incremented. -/
def State.pop16 (s : State) : Word × State :=
  let w := s.read16 ((s.reg 7).setWidth 16)
  (w.1, w.2.setReg 7 (w.2.reg 7 + 2))

/-- Take the next free value (assumption 2). -/
def State.takeFree (s : State) : BitVec 32 × State :=
  (Config.freeValue s.freeIndex, { s with freeIndex := s.freeIndex + 1 })

/-! ## The one event, and the return from an exception frame -/

/-- `raise UndefinedOpcode(w0)` at address `a` (R301): under `nopAdvance2` PC ends 2 past the first word
and nothing else changes; under `fault` the model stops with the event. The machine has no other
exception and no trap entry (R300, R306). -/
def State.raiseUndefinedOpcode (s : State) (a : Long) (w0 : Word) : Host.Outcome State Fault Refusal :=
  match s.params.undefinedOpcode with
  | .nopAdvance2 => .next (s.setPc (a + 2))
  | .fault => .fault (.undefinedOpcode a w0)

/-- RTE's operation (R268): the first word popped gives all of CCR from its low byte, the second gives
PC. -/
def State.returnFromException (s : State) : State :=
  let w := s.pop16
  let t := State.pop16 { w.2 with ccr := w.1.extractLsb' 0 8 }
  t.2.setPc (t.1.setWidth 32)

end Sys2Proof.Machine
end

