-- ==== Sys2Proof/Machine/Flags.lean ====
section
/-! DEFINITION. The flags of CCR and every flag computation (00_scope.md rule R9; 10_state.md rules
R29, R30; 42_logic_shift.md rules R221 to R228; 44_control_transfer.md rule R261). -/

namespace Sys2Proof.Machine

/-- The eight bits of CCR (R29). -/
inductive Flag where
  | i | ui | h | u | n | z | v | c
  deriving DecidableEq, Repr

/-- The bit of CCR that holds a flag (R29). -/
def Flag.bit : Flag → Nat
  | .i => 7
  | .ui => 6
  | .h => 5
  | .u => 4
  | .n => 3
  | .z => 2
  | .v => 1
  | .c => 0

/-- A flag's value. -/
def State.flag (s : State) (f : Flag) : Bool := s.ccr.getLsbD f.bit

/-- Write one flag and keep the other seven. -/
def State.setFlag (s : State) (f : Flag) (x : Bool) : State :=
  { s with ccr := setBit s.ccr f.bit x }

/-- All eight bits of CCR at once. -/
def State.setCcr (s : State) (v : Byte) : State := { s with ccr := v }

/-! ## Arithmetic -/

/-- The five arithmetic flags of one result (R9). -/
structure ArithFlags where
  h : Bool
  n : Bool
  z : Bool
  v : Bool
  c : Bool
  deriving DecidableEq, Repr

/-- `ADD_N(a, b, cin)` at width N = `w` (R9). -/
def addN {w : Nat} (a b : BitVec w) (cin : Bool) : BitVec w × ArithFlags :=
  let sum := a.toNat + b.toNat + cin.toNat
  let r := BitVec.ofNat w sum
  (r,
   { h := decide (2 ^ (w - 4) ≤ a.toNat % 2 ^ (w - 4) + b.toNat % 2 ^ (w - 4) + cin.toNat)
     n := r.msb
     z := decide (r = 0)
     v := a.msb == b.msb && r.msb != a.msb
     c := decide (2 ^ w ≤ sum) })

/-- `SUB_N(a, b, bin)` at width N = `w`: `a` is the minuend (R9). -/
def subN {w : Nat} (a b : BitVec w) (bin : Bool) : BitVec w × ArithFlags :=
  let r := BitVec.ofInt w ((a.toNat : Int) - b.toNat - bin.toNat)
  (r,
   { h := decide (a.toNat % 2 ^ (w - 4) < b.toNat % 2 ^ (w - 4) + bin.toNat)
     n := r.msb
     z := decide (r = 0)
     v := a.msb != b.msb && r.msb != a.msb
     c := decide (a.toNat < b.toNat + bin.toNat) })

/-- Write H, N, Z, V and C (R171). -/
def State.setArith (s : State) (f : ArithFlags) : State :=
  ((((s.setFlag .h f.h).setFlag .n f.n).setFlag .z f.z).setFlag .v f.v).setFlag .c f.c

/-- Write H, N, V and C, and let Z only be cleared (R175, R180). -/
def State.setArithSticky (s : State) (f : ArithFlags) : State :=
  s.setArith { f with z := s.flag .z && f.z }

/-! ## Results that write N, Z and V -/

/-- Write N and Z and leave the rest. -/
def State.setNZ (s : State) (n z : Bool) : State := (s.setFlag .n n).setFlag .z z

/-- N and Z from a result of any width. -/
def State.setNZOf {w : Nat} (s : State) (r : BitVec w) : State := s.setNZ r.msb (decide (r = 0))

/-- `LOGIC_N(r)` (R9): N and Z from the result, V cleared; H and C unchanged. -/
def State.logicN {w : Nat} (s : State) (r : BitVec w) : State := (s.setNZOf r).setFlag .v false

/-- The flags of INC and DEC (R196 to R201): N and Z from the result, V as given; H and C unchanged. -/
def State.incFlags {w : Nat} (s : State) (r : BitVec w) (v : Bool) : State :=
  (s.setNZOf r).setFlag .v v

/-! ## One-bit shifts and rotates -/

/-- What a shift or rotate gives: the value written back, V and the bit shifted out (R210). -/
structure ShiftResult (w : Nat) where
  r : BitVec w
  v : Bool
  c : Bool
  deriving DecidableEq, Repr

/-- One bit in the low place of a value `w` bits wide. -/
def lowBit (w : Nat) (x : Bool) : BitVec w := if x then 1 else 0

/-- One bit in the top place of a value `w` bits wide. -/
def topBit (w : Nat) (x : Bool) : BitVec w := lowBit w x <<< (w - 1)

/-- SHAL (R221). -/
def shal {w : Nat} (a : BitVec w) : ShiftResult w :=
  { r := a <<< 1, v := a.msb != a.getLsbD (w - 2), c := a.msb }

/-- SHAR (R222). -/
def shar {w : Nat} (a : BitVec w) : ShiftResult w :=
  { r := a >>> 1 ||| topBit w a.msb, v := false, c := a.getLsbD 0 }

/-- SHLL (R223). -/
def shll {w : Nat} (a : BitVec w) : ShiftResult w :=
  { r := a <<< 1, v := false, c := a.msb }

/-- SHLR (R224). -/
def shlr {w : Nat} (a : BitVec w) : ShiftResult w :=
  { r := a >>> 1, v := false, c := a.getLsbD 0 }

/-- ROTL (R225). -/
def rotl {w : Nat} (a : BitVec w) : ShiftResult w :=
  { r := a <<< 1 ||| lowBit w a.msb, v := false, c := a.msb }

/-- ROTR (R226). -/
def rotr {w : Nat} (a : BitVec w) : ShiftResult w :=
  { r := a >>> 1 ||| topBit w (a.getLsbD 0), v := false, c := a.getLsbD 0 }

/-- ROTXL (R227): the old C enters bit 0. -/
def rotxl {w : Nat} (c : Bool) (a : BitVec w) : ShiftResult w :=
  { r := a <<< 1 ||| lowBit w c, v := false, c := a.msb }

/-- ROTXR (R228): the old C enters the top bit. -/
def rotxr {w : Nat} (c : Bool) (a : BitVec w) : ShiftResult w :=
  { r := a >>> 1 ||| topBit w c, v := false, c := a.getLsbD 0 }

/-- N and Z from the value written back, V and C as the shift gives them; H unchanged (R221 to R228). -/
def State.shiftFlags {w : Nat} (s : State) (x : ShiftResult w) : State :=
  ((s.setNZOf x.r).setFlag .v x.v).setFlag .c x.c

/-! ## Branch conditions -/

/-- The sixteen conditions in the order of their 4-bit field (R261). -/
inductive Cond where
  | ra | rn | hi | ls | cc | cs | ne | eq | vc | vs | pl | mi | ge | lt | gt | le
  deriving DecidableEq, Repr

/-- The predicate of a condition over CCR (R261). -/
def State.holds (s : State) : Cond → Bool
  | .ra => true
  | .rn => false
  | .hi => !(s.flag .c || s.flag .z)
  | .ls => s.flag .c || s.flag .z
  | .cc => !s.flag .c
  | .cs => s.flag .c
  | .ne => !s.flag .z
  | .eq => s.flag .z
  | .vc => !s.flag .v
  | .vs => s.flag .v
  | .pl => !s.flag .n
  | .mi => s.flag .n
  | .ge => !(s.flag .n ^^ s.flag .v)
  | .lt => s.flag .n ^^ s.flag .v
  | .gt => !(s.flag .z || (s.flag .n ^^ s.flag .v))
  | .le => s.flag .z || (s.flag .n ^^ s.flag .v)

end Sys2Proof.Machine
end

