-- ==== Sys2Proof/Machine/Operands.lean ====
section
/-! DEFINITION. Every operand form: the effective addresses (40_data_transfer.md rules R141 to R146;
30_encoding.md rule R107) and what a load, a store, a register result and a bit operand do, shared by
the instructions that have that form. -/

namespace Sys2Proof.Machine

/-! ## Effective addresses -/

/-- `@ERn` (R141). -/
def State.eaInd (s : State) (n : Reg3) : Word := (s.reg n).setWidth 16

/-- `@(d:16,ERn)` (R142). -/
def State.eaD16 (s : State) (d : Word) (n : Reg3) : Word := (s.reg n + d.signExtend 32).setWidth 16

/-- `@(d:24,ERn)` (R143): the low 24 bits of the 32-bit field are the displacement (R107). -/
def State.eaD24 (s : State) (d : Long) (n : Reg3) : Word :=
  (s.reg n + (d.setWidth 24).signExtend 32).setWidth 16

/-- `@aa:8` (R145). -/
def eaAa8 (aa : Byte) : Word := 0xFF#8 ++ aa

/-- `@aa:16` (R146). -/
def eaAa16 (aa : Word) : Word := aa

/-- `@aa:24` as a data address (R146). -/
def eaAa24 (aa : Long) : Word := aa.setWidth 16

/-- The address in ROM that `@@aa:8` reads its target from (R86, R107). -/
def eaVector (aa : Byte) : Word := aa.setWidth 16

/-- A branch displacement of 8 or 16 bits, sign-extended (R262). -/
def dispOf {w : Nat} (d : BitVec w) : Long := d.signExtend 32

/-! ## Data transfer shapes -/

/-- A byte register receives `v` and the flags follow it: moves (R147 to R149) and the results of the
logical operations (R211). -/
def State.moveB (s : State) (rd : Reg4) (v : Byte) : State := (s.setR8 rd v).logicN v

/-- A word register receives `v` and the flags follow it (R147, R152, R153, R203, R212). -/
def State.moveW (s : State) (rd : Reg4) (v : Word) : State := (s.setR16 rd v).logicN v

/-- A long register receives `v` and the flags follow it (R147, R156, R157, R203, R213). -/
def State.moveL (s : State) (erd : Reg3) (v : Long) : State := (s.setReg erd v).logicN v

/-- Byte load (R150). -/
def State.loadB (s : State) (ea : Word) (rd : Reg4) : State := (s.read8 ea).2.moveB rd (s.read8 ea).1

/-- Word load (R154). -/
def State.loadW (s : State) (ea : Word) (rd : Reg4) : State := (s.read16 ea).2.moveW rd (s.read16 ea).1

/-- Long load (R158). -/
def State.loadL (s : State) (ea : Word) (erd : Reg3) : State := (s.read32 ea).2.moveL erd (s.read32 ea).1

/-- Add `k` to an address register, on all 32 bits (R144). -/
def State.bump (s : State) (n : Reg3) (k : Long) : State := s.setReg n (s.reg n + k)

/-- Byte load with post-increment: read, increment, then write the destination (R144, R162). -/
def State.loadPostB (s : State) (ers : Reg3) (rd : Reg4) : State :=
  ((s.read8 (s.eaInd ers)).2.bump ers 1).moveB rd (s.read8 (s.eaInd ers)).1

/-- Word load with post-increment (R144, R162). -/
def State.loadPostW (s : State) (ers : Reg3) (rd : Reg4) : State :=
  ((s.read16 (s.eaInd ers)).2.bump ers 2).moveW rd (s.read16 (s.eaInd ers)).1

/-- Long load with post-increment (R144, R162). -/
def State.loadPostL (s : State) (ers : Reg3) (erd : Reg3) : State :=
  ((s.read32 (s.eaInd ers)).2.bump ers 4).moveL erd (s.read32 (s.eaInd ers)).1

/-- Byte store (R151). -/
def State.storeB (s : State) (ea : Word) (v : Byte) : State := (s.write8 ea v).logicN v

/-- Word store (R155). -/
def State.storeW (s : State) (ea : Word) (v : Word) : State := (s.write16 ea v).logicN v

/-- Long store (R159). -/
def State.storeL (s : State) (ea : Word) (v : Long) : State := (s.write32 ea v).logicN v

/-- Byte store with pre-decrement: the register is decremented first, and the source is read after
that (R144, R162). -/
def State.storePreB (s : State) (rs : Reg4) (erd : Reg3) : State :=
  let t := s.bump erd (-1)
  t.storeB (t.eaInd erd) (t.r8 rs)

/-- Word store with pre-decrement (R144, R162). -/
def State.storePreW (s : State) (rs : Reg4) (erd : Reg3) : State :=
  let t := s.bump erd (-2)
  t.storeW (t.eaInd erd) (t.r16 rs)

/-- Long store with pre-decrement (R144, R162). -/
def State.storePreL (s : State) (ers : Reg3) (erd : Reg3) : State :=
  let t := s.bump erd (-4)
  t.storeL (t.eaInd erd) (t.reg ers)

/-! ## Register results -/

/-- A byte result with its arithmetic flags (R171). -/
def State.arithB (s : State) (rd : Reg4) (x : Byte × ArithFlags) : State := (s.setR8 rd x.1).setArith x.2

/-- A word result with its arithmetic flags (R172). -/
def State.arithW (s : State) (rd : Reg4) (x : Word × ArithFlags) : State := (s.setR16 rd x.1).setArith x.2

/-- A long result with its arithmetic flags (R173). -/
def State.arithL (s : State) (erd : Reg3) (x : Long × ArithFlags) : State :=
  (s.setReg erd x.1).setArith x.2

/-- A byte result whose Z can only be cleared (R175, R180). -/
def State.arithStickyB (s : State) (rd : Reg4) (x : Byte × ArithFlags) : State :=
  (s.setR8 rd x.1).setArithSticky x.2

/-- A byte result of INC or DEC (R196, R199). -/
def State.incB (s : State) (rd : Reg4) (r : Byte) (v : Bool) : State := (s.setR8 rd r).incFlags r v

/-- A word result of INC or DEC (R197, R200). -/
def State.incW (s : State) (rd : Reg4) (r : Word) (v : Bool) : State := (s.setR16 rd r).incFlags r v

/-- A long result of INC or DEC (R198, R201). -/
def State.incL (s : State) (erd : Reg3) (r : Long) (v : Bool) : State := (s.setReg erd r).incFlags r v

/-- A byte result of a shift or rotate (R221 to R228). -/
def State.shiftB (s : State) (rd : Reg4) (x : ShiftResult 8) : State := (s.setR8 rd x.r).shiftFlags x

/-- A word result of a shift or rotate (R221 to R228). -/
def State.shiftW (s : State) (rd : Reg4) (x : ShiftResult 16) : State := (s.setR16 rd x.r).shiftFlags x

/-- A long result of a shift or rotate (R221 to R228). -/
def State.shiftL (s : State) (erd : Reg3) (x : ShiftResult 32) : State :=
  (s.setReg erd x.r).shiftFlags x

/-! ## Bit operands -/

/-- The bit number in a byte register: its low three bits (R241). -/
def State.bitNumber (s : State) (rn : Reg4) : Nat := ((s.r8 rn).extractLsb' 0 3).toNat

/-- Read the byte at `ea` and write it back with bit `n` replaced by `f` of the old bit (R241). -/
def State.modifyBit (s : State) (ea : Word) (n : Nat) (f : Bool → Bool) : State :=
  (s.read8 ea).2.write8 ea (setBit (s.read8 ea).1 n (f ((s.read8 ea).1.getLsbD n)))

/-- The same on a byte register (R241). -/
def State.modifyBitR (s : State) (rd : Reg4) (n : Nat) (f : Bool → Bool) : State :=
  s.setR8 rd (setBit (s.r8 rd) n (f ((s.r8 rd).getLsbD n)))

/-- Z becomes the complement of bit `n` of `b` (R245). -/
def State.testBit (s : State) (b : Byte) (n : Nat) : State := s.setFlag .z (!b.getLsbD n)

/-- C becomes `f` of C and bit `n` of `b` (R246 to R253). -/
def State.carryBit (s : State) (b : Byte) (n : Nat) (f : Bool → Bool → Bool) : State :=
  s.setFlag .c (f (s.flag .c) (b.getLsbD n))

/-- BTST on the byte at `ea`: one read, no write (R241, R245). -/
def State.testBitAt (s : State) (ea : Word) (n : Nat) : State := (s.read8 ea).2.testBit (s.read8 ea).1 n

/-- The carry family on the byte at `ea`: one read, no write (R241). -/
def State.carryBitAt (s : State) (ea : Word) (n : Nat) (f : Bool → Bool → Bool) : State :=
  (s.read8 ea).2.carryBit (s.read8 ea).1 n f

end Sys2Proof.Machine
end

