-- ==== Sys2Proof/Syntax.lean ====
section
/-! DEFINITION. The instructions: one constructor per row of spec/opcode_table.json, in its order
(30_encoding.md rule R112). Each docstring gives the assembler form, the bytes in the notation of R103
and the rule that gives the meaning.

Operands: `rs`, `rd`, `rn` are 4-bit byte or word register fields, `ers`, `erd`, `ern` 3-bit long
register fields (R22); `imm` an immediate, `bit` a bit number (R106); `aa` an absolute address and
`disp` a displacement (R107). A 24-bit data address or displacement is the 32-bit field of two words
that R107 describes, whose top byte is fixed 00 (Sys2Proof/WellFormed.lean checks it); the 24-bit
address of JMP and JSR is three bytes of the instruction. -/

namespace Sys2Proof

inductive Instr where
  -- Data transfer (40_data_transfer.md)
  /-- `MOV.B Rs,Rd`: `0C sd` (R148). -/
  | movB_rs_rd (rs rd : Reg4)
  /-- `MOV.B #xx:8,Rd`: `Fd ii` (R149). -/
  | movB_imm_rd (imm : Byte) (rd : Reg4)
  /-- `MOV.B @ERs,Rd`: `68 (0sss)d` (R150). -/
  | movB_ind_rd (ers : Reg3) (rd : Reg4)
  /-- `MOV.B @(d:16,ERs),Rd`: `6E (0sss)d pp pp` (R150). -/
  | movB_d16_rd (disp : Word) (ers : Reg3) (rd : Reg4)
  /-- `MOV.B @(d:24,ERs),Rd`: `78 (0sss)0 6A 2d 00 pp pp pp` (R150). -/
  | movB_d24_rd (disp : Long) (ers : Reg3) (rd : Reg4)
  /-- `MOV.B @ERs+,Rd`: `6C (0sss)d` (R150). -/
  | movB_postInc_rd (ers : Reg3) (rd : Reg4)
  /-- `MOV.B @aa:8,Rd`: `2d aa` (R150). -/
  | movB_aa8_rd (aa : Byte) (rd : Reg4)
  /-- `MOV.B @aa:16,Rd`: `6A 0d aa aa` (R150). -/
  | movB_aa16_rd (aa : Word) (rd : Reg4)
  /-- `MOV.B @aa:24,Rd`: `6A 2d 00 aa aa aa` (R150). -/
  | movB_aa24_rd (aa : Long) (rd : Reg4)
  /-- `MOV.B Rs,@ERd`: `68 (1ddd)s` (R151). -/
  | movB_rs_ind (rs : Reg4) (erd : Reg3)
  /-- `MOV.B Rs,@(d:16,ERd)`: `6E (1ddd)s pp pp` (R151). -/
  | movB_rs_d16 (rs : Reg4) (disp : Word) (erd : Reg3)
  /-- `MOV.B Rs,@(d:24,ERd)`: `78 (0ddd)0 6A As 00 pp pp pp` (R151). -/
  | movB_rs_d24 (rs : Reg4) (disp : Long) (erd : Reg3)
  /-- `MOV.B Rs,@-ERd`: `6C (1ddd)s` (R151). -/
  | movB_rs_preDec (rs : Reg4) (erd : Reg3)
  /-- `MOV.B Rs,@aa:8`: `3s aa` (R151). -/
  | movB_rs_aa8 (rs : Reg4) (aa : Byte)
  /-- `MOV.B Rs,@aa:16`: `6A 8s aa aa` (R151). -/
  | movB_rs_aa16 (rs : Reg4) (aa : Word)
  /-- `MOV.B Rs,@aa:24`: `6A As 00 aa aa aa` (R151). -/
  | movB_rs_aa24 (rs : Reg4) (aa : Long)
  /-- `MOV.W Rs,Rd`: `0D sd` (R152). -/
  | movW_rs_rd (rs rd : Reg4)
  /-- `MOV.W #xx:16,Rd`: `79 0d ii ii` (R153). -/
  | movW_imm_rd (imm : Word) (rd : Reg4)
  /-- `MOV.W @ERs,Rd`: `69 (0sss)d` (R154). -/
  | movW_ind_rd (ers : Reg3) (rd : Reg4)
  /-- `MOV.W @(d:16,ERs),Rd`: `6F (0sss)d pp pp` (R154). -/
  | movW_d16_rd (disp : Word) (ers : Reg3) (rd : Reg4)
  /-- `MOV.W @(d:24,ERs),Rd`: `78 (0sss)0 6B 2d 00 pp pp pp` (R154). -/
  | movW_d24_rd (disp : Long) (ers : Reg3) (rd : Reg4)
  /-- `MOV.W @ERs+,Rd`: `6D (0sss)d` (R154). -/
  | movW_postInc_rd (ers : Reg3) (rd : Reg4)
  /-- `MOV.W @aa:16,Rd`: `6B 0d aa aa` (R154). -/
  | movW_aa16_rd (aa : Word) (rd : Reg4)
  /-- `MOV.W @aa:24,Rd`: `6B 2d 00 aa aa aa` (R154). -/
  | movW_aa24_rd (aa : Long) (rd : Reg4)
  /-- `MOV.W Rs,@ERd`: `69 (1ddd)s` (R155). -/
  | movW_rs_ind (rs : Reg4) (erd : Reg3)
  /-- `MOV.W Rs,@(d:16,ERd)`: `6F (1ddd)s pp pp` (R155). -/
  | movW_rs_d16 (rs : Reg4) (disp : Word) (erd : Reg3)
  /-- `MOV.W Rs,@(d:24,ERd)`: `78 (0ddd)0 6B As 00 pp pp pp` (R155). -/
  | movW_rs_d24 (rs : Reg4) (disp : Long) (erd : Reg3)
  /-- `MOV.W Rs,@-ERd`: `6D (1ddd)s` (R155). -/
  | movW_rs_preDec (rs : Reg4) (erd : Reg3)
  /-- `MOV.W Rs,@aa:16`: `6B 8s aa aa` (R155). -/
  | movW_rs_aa16 (rs : Reg4) (aa : Word)
  /-- `MOV.W Rs,@aa:24`: `6B As 00 aa aa aa` (R155). -/
  | movW_rs_aa24 (rs : Reg4) (aa : Long)
  /-- `MOV.L ERs,ERd`: `0F (1sss)(0ddd)` (R156). -/
  | movL_ers_erd (ers erd : Reg3)
  /-- `MOV.L #xx:32,ERd`: `7A 0(0ddd) ii ii ii ii` (R157). -/
  | movL_imm_erd (imm : Long) (erd : Reg3)
  /-- `MOV.L @ERs,ERd`: `01 00 69 (0sss)(0ddd)` (R158). -/
  | movL_ind_erd (ers erd : Reg3)
  /-- `MOV.L @(d:16,ERs),ERd`: `01 00 6F (0sss)(0ddd) pp pp` (R158). -/
  | movL_d16_erd (disp : Word) (ers erd : Reg3)
  /-- `MOV.L @(d:24,ERs),ERd`: `01 00 78 (0sss)0 6B 2(0ddd) 00 pp pp pp` (R158). -/
  | movL_d24_erd (disp : Long) (ers erd : Reg3)
  /-- `MOV.L @ERs+,ERd`: `01 00 6D (0sss)(0ddd)` (R158). -/
  | movL_postInc_erd (ers erd : Reg3)
  /-- `MOV.L @aa:16,ERd`: `01 00 6B 0(0ddd) aa aa` (R158). -/
  | movL_aa16_erd (aa : Word) (erd : Reg3)
  /-- `MOV.L @aa:24,ERd`: `01 00 6B 2(0ddd) 00 aa aa aa` (R158). -/
  | movL_aa24_erd (aa : Long) (erd : Reg3)
  /-- `MOV.L ERs,@ERd`: `01 00 69 (1ddd)(0sss)` (R159). -/
  | movL_ers_ind (ers erd : Reg3)
  /-- `MOV.L ERs,@(d:16,ERd)`: `01 00 6F (1ddd)(0sss) pp pp` (R159). -/
  | movL_ers_d16 (ers : Reg3) (disp : Word) (erd : Reg3)
  /-- `MOV.L ERs,@(d:24,ERd)`: `01 00 78 (1ddd)0 6B A(0sss) 00 pp pp pp` (R159). -/
  | movL_ers_d24 (ers : Reg3) (disp : Long) (erd : Reg3)
  /-- `MOV.L ERs,@-ERd`: `01 00 6D (1ddd)(0sss)` (R159). -/
  | movL_ers_preDec (ers erd : Reg3)
  /-- `MOV.L ERs,@aa:16`: `01 00 6B 8(0sss) aa aa` (R159). -/
  | movL_ers_aa16 (ers : Reg3) (aa : Word)
  /-- `MOV.L ERs,@aa:24`: `01 00 6B A(0sss) 00 aa aa aa` (R159). -/
  | movL_ers_aa24 (ers : Reg3) (aa : Long)
  /-- `MOVFPE @aa:16,Rd`: `6A 4d aa aa` (R160). -/
  | movfpe_aa16_rd (aa : Word) (rd : Reg4)
  /-- `MOVTPE Rs,@aa:16`: `6A Cs aa aa` (R161). -/
  | movtpe_rs_aa16 (rs : Reg4) (aa : Word)
  -- Arithmetic (41_arithmetic.md)
  /-- `ADD.B #xx:8,Rd`: `8d ii` (R171). -/
  | addB_imm_rd (imm : Byte) (rd : Reg4)
  /-- `ADD.B Rs,Rd`: `08 sd` (R171). -/
  | addB_rs_rd (rs rd : Reg4)
  /-- `ADD.W #xx:16,Rd`: `79 1d ii ii` (R172). -/
  | addW_imm_rd (imm : Word) (rd : Reg4)
  /-- `ADD.W Rs,Rd`: `09 sd` (R172). -/
  | addW_rs_rd (rs rd : Reg4)
  /-- `ADD.L #xx:32,ERd`: `7A 1(0ddd) ii ii ii ii` (R173). -/
  | addL_imm_erd (imm : Long) (erd : Reg3)
  /-- `ADD.L ERs,ERd`: `0A (1sss)(0ddd)` (R173). -/
  | addL_ers_erd (ers erd : Reg3)
  /-- `ADDS #1,ERd`: `0B 0(0ddd)` (R174). -/
  | adds_1 (erd : Reg3)
  /-- `ADDS #2,ERd`: `0B 8(0ddd)` (R174). -/
  | adds_2 (erd : Reg3)
  /-- `ADDS #4,ERd`: `0B 9(0ddd)` (R174). -/
  | adds_4 (erd : Reg3)
  /-- `ADDX #xx:8,Rd`: `9d ii` (R175). -/
  | addx_imm_rd (imm : Byte) (rd : Reg4)
  /-- `ADDX Rs,Rd`: `0E sd` (R175). -/
  | addx_rs_rd (rs rd : Reg4)
  /-- `SUB.B Rs,Rd`: `18 sd` (R176). -/
  | subB_rs_rd (rs rd : Reg4)
  /-- `SUB.W #xx:16,Rd`: `79 3d ii ii` (R177). -/
  | subW_imm_rd (imm : Word) (rd : Reg4)
  /-- `SUB.W Rs,Rd`: `19 sd` (R177). -/
  | subW_rs_rd (rs rd : Reg4)
  /-- `SUB.L #xx:32,ERd`: `7A 3(0ddd) ii ii ii ii` (R178). -/
  | subL_imm_erd (imm : Long) (erd : Reg3)
  /-- `SUB.L ERs,ERd`: `1A (1sss)(0ddd)` (R178). -/
  | subL_ers_erd (ers erd : Reg3)
  /-- `SUBS #1,ERd`: `1B 0(0ddd)` (R179). -/
  | subs_1 (erd : Reg3)
  /-- `SUBS #2,ERd`: `1B 8(0ddd)` (R179). -/
  | subs_2 (erd : Reg3)
  /-- `SUBS #4,ERd`: `1B 9(0ddd)` (R179). -/
  | subs_4 (erd : Reg3)
  /-- `SUBX #xx:8,Rd`: `Bd ii` (R180). -/
  | subx_imm_rd (imm : Byte) (rd : Reg4)
  /-- `SUBX Rs,Rd`: `1E sd` (R180). -/
  | subx_rs_rd (rs rd : Reg4)
  /-- `CMP.B #xx:8,Rd`: `Ad ii` (R181). -/
  | cmpB_imm_rd (imm : Byte) (rd : Reg4)
  /-- `CMP.B Rs,Rd`: `1C sd` (R181). -/
  | cmpB_rs_rd (rs rd : Reg4)
  /-- `CMP.W #xx:16,Rd`: `79 2d ii ii` (R182). -/
  | cmpW_imm_rd (imm : Word) (rd : Reg4)
  /-- `CMP.W Rs,Rd`: `1D sd` (R182). -/
  | cmpW_rs_rd (rs rd : Reg4)
  /-- `CMP.L #xx:32,ERd`: `7A 2(0ddd) ii ii ii ii` (R183). -/
  | cmpL_imm_erd (imm : Long) (erd : Reg3)
  /-- `CMP.L ERs,ERd`: `1F (1sss)(0ddd)` (R183). -/
  | cmpL_ers_erd (ers erd : Reg3)
  /-- `NEG.B Rd`: `17 8d` (R184). -/
  | negB (rd : Reg4)
  /-- `NEG.W Rd`: `17 9d` (R184). -/
  | negW (rd : Reg4)
  /-- `NEG.L ERd`: `17 B(0ddd)` (R184). -/
  | negL (erd : Reg3)
  /-- `DAA Rd`: `0F 0d` (R185). -/
  | daa (rd : Reg4)
  /-- `DAS Rd`: `1F 0d` (R186). -/
  | das (rd : Reg4)
  /-- `MULXU.B Rs,Rd`: `50 sd` (R187). -/
  | mulxuB_rs_rd (rs rd : Reg4)
  /-- `MULXU.W Rs,ERd`: `52 s(0ddd)` (R188). -/
  | mulxuW_rs_erd (rs : Reg4) (erd : Reg3)
  /-- `DIVXU.B Rs,Rd`: `51 sd` (R190). -/
  | divxuB_rs_rd (rs rd : Reg4)
  /-- `DIVXU.W Rs,ERd`: `53 s(0ddd)` (R191). -/
  | divxuW_rs_erd (rs : Reg4) (erd : Reg3)
  /-- `DIVXS.B Rs,Rd`: `01 D0 51 sd` (R192). -/
  | divxsB_rs_rd (rs rd : Reg4)
  /-- `DIVXS.W Rs,ERd`: `01 D0 53 s(0ddd)` (R193). -/
  | divxsW_rs_erd (rs : Reg4) (erd : Reg3)
  /-- `MULXS.B Rs,Rd`: `01 C0 50 sd` (R194). -/
  | mulxsB_rs_rd (rs rd : Reg4)
  /-- `MULXS.W Rs,ERd`: `01 C0 52 s(0ddd)` (R195). -/
  | mulxsW_rs_erd (rs : Reg4) (erd : Reg3)
  /-- `INC.B Rd`: `0A 0d` (R196). -/
  | incB (rd : Reg4)
  /-- `INC.W #1,Rd`: `0B 5d` (R197). -/
  | incW_1 (rd : Reg4)
  /-- `INC.W #2,Rd`: `0B Dd` (R197). -/
  | incW_2 (rd : Reg4)
  /-- `INC.L #1,ERd`: `0B 7(0ddd)` (R198). -/
  | incL_1 (erd : Reg3)
  /-- `INC.L #2,ERd`: `0B F(0ddd)` (R198). -/
  | incL_2 (erd : Reg3)
  /-- `DEC.B Rd`: `1A 0d` (R199). -/
  | decB (rd : Reg4)
  /-- `DEC.W #1,Rd`: `1B 5d` (R200). -/
  | decW_1 (rd : Reg4)
  /-- `DEC.W #2,Rd`: `1B Dd` (R200). -/
  | decW_2 (rd : Reg4)
  /-- `DEC.L #1,ERd`: `1B 7(0ddd)` (R201). -/
  | decL_1 (erd : Reg3)
  /-- `DEC.L #2,ERd`: `1B F(0ddd)` (R201). -/
  | decL_2 (erd : Reg3)
  /-- `EXTU.W Rd`: `17 5d` (R202). -/
  | extuW (rd : Reg4)
  /-- `EXTU.L ERd`: `17 7(0ddd)` (R202). -/
  | extuL (erd : Reg3)
  /-- `EXTS.W Rd`: `17 Dd` (R203). -/
  | extsW (rd : Reg4)
  /-- `EXTS.L ERd`: `17 F(0ddd)` (R203). -/
  | extsL (erd : Reg3)
  -- Logic, shifts and rotates (42_logic_shift.md)
  /-- `AND.B #xx:8,Rd`: `Ed ii` (R211). -/
  | andB_imm_rd (imm : Byte) (rd : Reg4)
  /-- `AND.B Rs,Rd`: `16 sd` (R211). -/
  | andB_rs_rd (rs rd : Reg4)
  /-- `AND.W #xx:16,Rd`: `79 6d ii ii` (R212). -/
  | andW_imm_rd (imm : Word) (rd : Reg4)
  /-- `AND.W Rs,Rd`: `66 sd` (R212). -/
  | andW_rs_rd (rs rd : Reg4)
  /-- `AND.L #xx:32,ERd`: `7A 6(0ddd) ii ii ii ii` (R213). -/
  | andL_imm_erd (imm : Long) (erd : Reg3)
  /-- `AND.L ERs,ERd`: `01 F0 66 (0sss)(0ddd)` (R213). -/
  | andL_ers_erd (ers erd : Reg3)
  /-- `OR.B #xx:8,Rd`: `Cd ii` (R214). -/
  | orB_imm_rd (imm : Byte) (rd : Reg4)
  /-- `OR.B Rs,Rd`: `14 sd` (R214). -/
  | orB_rs_rd (rs rd : Reg4)
  /-- `OR.W #xx:16,Rd`: `79 4d ii ii` (R215). -/
  | orW_imm_rd (imm : Word) (rd : Reg4)
  /-- `OR.W Rs,Rd`: `64 sd` (R215). -/
  | orW_rs_rd (rs rd : Reg4)
  /-- `OR.L #xx:32,ERd`: `7A 4(0ddd) ii ii ii ii` (R216). -/
  | orL_imm_erd (imm : Long) (erd : Reg3)
  /-- `OR.L ERs,ERd`: `01 F0 64 (0sss)(0ddd)` (R216). -/
  | orL_ers_erd (ers erd : Reg3)
  /-- `XOR.B #xx:8,Rd`: `Dd ii` (R217). -/
  | xorB_imm_rd (imm : Byte) (rd : Reg4)
  /-- `XOR.B Rs,Rd`: `15 sd` (R217). -/
  | xorB_rs_rd (rs rd : Reg4)
  /-- `XOR.W #xx:16,Rd`: `79 5d ii ii` (R218). -/
  | xorW_imm_rd (imm : Word) (rd : Reg4)
  /-- `XOR.W Rs,Rd`: `65 sd` (R218). -/
  | xorW_rs_rd (rs rd : Reg4)
  /-- `XOR.L #xx:32,ERd`: `7A 5(0ddd) ii ii ii ii` (R219). -/
  | xorL_imm_erd (imm : Long) (erd : Reg3)
  /-- `XOR.L ERs,ERd`: `01 F0 65 (0sss)(0ddd)` (R219). -/
  | xorL_ers_erd (ers erd : Reg3)
  /-- `NOT.B Rd`: `17 0d` (R220). -/
  | notB (rd : Reg4)
  /-- `NOT.W Rd`: `17 1d` (R220). -/
  | notW (rd : Reg4)
  /-- `NOT.L ERd`: `17 3(0ddd)` (R220). -/
  | notL (erd : Reg3)
  /-- `SHAL.B Rd`: `10 8d` (R221). -/
  | shalB (rd : Reg4)
  /-- `SHAL.W Rd`: `10 9d` (R221). -/
  | shalW (rd : Reg4)
  /-- `SHAL.L ERd`: `10 B(0ddd)` (R221). -/
  | shalL (erd : Reg3)
  /-- `SHAR.B Rd`: `11 8d` (R222). -/
  | sharB (rd : Reg4)
  /-- `SHAR.W Rd`: `11 9d` (R222). -/
  | sharW (rd : Reg4)
  /-- `SHAR.L ERd`: `11 B(0ddd)` (R222). -/
  | sharL (erd : Reg3)
  /-- `SHLL.B Rd`: `10 0d` (R223). -/
  | shllB (rd : Reg4)
  /-- `SHLL.W Rd`: `10 1d` (R223). -/
  | shllW (rd : Reg4)
  /-- `SHLL.L ERd`: `10 3(0ddd)` (R223). -/
  | shllL (erd : Reg3)
  /-- `SHLR.B Rd`: `11 0d` (R224). -/
  | shlrB (rd : Reg4)
  /-- `SHLR.W Rd`: `11 1d` (R224). -/
  | shlrW (rd : Reg4)
  /-- `SHLR.L ERd`: `11 3(0ddd)` (R224). -/
  | shlrL (erd : Reg3)
  /-- `ROTL.B Rd`: `12 8d` (R225). -/
  | rotlB (rd : Reg4)
  /-- `ROTL.W Rd`: `12 9d` (R225). -/
  | rotlW (rd : Reg4)
  /-- `ROTL.L ERd`: `12 B(0ddd)` (R225). -/
  | rotlL (erd : Reg3)
  /-- `ROTR.B Rd`: `13 8d` (R226). -/
  | rotrB (rd : Reg4)
  /-- `ROTR.W Rd`: `13 9d` (R226). -/
  | rotrW (rd : Reg4)
  /-- `ROTR.L ERd`: `13 B(0ddd)` (R226). -/
  | rotrL (erd : Reg3)
  /-- `ROTXL.B Rd`: `12 0d` (R227). -/
  | rotxlB (rd : Reg4)
  /-- `ROTXL.W Rd`: `12 1d` (R227). -/
  | rotxlW (rd : Reg4)
  /-- `ROTXL.L ERd`: `12 3(0ddd)` (R227). -/
  | rotxlL (erd : Reg3)
  /-- `ROTXR.B Rd`: `13 0d` (R228). -/
  | rotxrB (rd : Reg4)
  /-- `ROTXR.W Rd`: `13 1d` (R228). -/
  | rotxrW (rd : Reg4)
  /-- `ROTXR.L ERd`: `13 3(0ddd)` (R228). -/
  | rotxrL (erd : Reg3)
  -- Bit manipulation (43_bit_manipulation.md)
  /-- `BSET #xx:3,Rd`: `70 (0bbb)d` (R242). -/
  | bset_imm_rd (bit : BitVec 3) (rd : Reg4)
  /-- `BSET #xx:3,@ERd`: `7D (0ddd)0 70 (0bbb)0` (R242). -/
  | bset_imm_ind (bit : BitVec 3) (erd : Reg3)
  /-- `BSET #xx:3,@aa:8`: `7F aa 70 (0bbb)0` (R242). -/
  | bset_imm_aa8 (bit : BitVec 3) (aa : Byte)
  /-- `BSET Rn,Rd`: `60 nd` (R242). -/
  | bset_rn_rd (rn rd : Reg4)
  /-- `BSET Rn,@ERd`: `7D (0ddd)0 60 n0` (R242). -/
  | bset_rn_ind (rn : Reg4) (erd : Reg3)
  /-- `BSET Rn,@aa:8`: `7F aa 60 n0` (R242). -/
  | bset_rn_aa8 (rn : Reg4) (aa : Byte)
  /-- `BCLR #xx:3,Rd`: `72 (0bbb)d` (R243). -/
  | bclr_imm_rd (bit : BitVec 3) (rd : Reg4)
  /-- `BCLR #xx:3,@ERd`: `7D (0ddd)0 72 (0bbb)0` (R243). -/
  | bclr_imm_ind (bit : BitVec 3) (erd : Reg3)
  /-- `BCLR #xx:3,@aa:8`: `7F aa 72 (0bbb)0` (R243). -/
  | bclr_imm_aa8 (bit : BitVec 3) (aa : Byte)
  /-- `BCLR Rn,Rd`: `62 nd` (R243). -/
  | bclr_rn_rd (rn rd : Reg4)
  /-- `BCLR Rn,@ERd`: `7D (0ddd)0 62 n0` (R243). -/
  | bclr_rn_ind (rn : Reg4) (erd : Reg3)
  /-- `BCLR Rn,@aa:8`: `7F aa 62 n0` (R243). -/
  | bclr_rn_aa8 (rn : Reg4) (aa : Byte)
  /-- `BNOT #xx:3,Rd`: `71 (0bbb)d` (R244). -/
  | bnot_imm_rd (bit : BitVec 3) (rd : Reg4)
  /-- `BNOT #xx:3,@ERd`: `7D (0ddd)0 71 (0bbb)0` (R244). -/
  | bnot_imm_ind (bit : BitVec 3) (erd : Reg3)
  /-- `BNOT #xx:3,@aa:8`: `7F aa 71 (0bbb)0` (R244). -/
  | bnot_imm_aa8 (bit : BitVec 3) (aa : Byte)
  /-- `BNOT Rn,Rd`: `61 nd` (R244). -/
  | bnot_rn_rd (rn rd : Reg4)
  /-- `BNOT Rn,@ERd`: `7D (0ddd)0 61 n0` (R244). -/
  | bnot_rn_ind (rn : Reg4) (erd : Reg3)
  /-- `BNOT Rn,@aa:8`: `7F aa 61 n0` (R244). -/
  | bnot_rn_aa8 (rn : Reg4) (aa : Byte)
  /-- `BTST #xx:3,Rd`: `73 (0bbb)d` (R245). -/
  | btst_imm_rd (bit : BitVec 3) (rd : Reg4)
  /-- `BTST #xx:3,@ERd`: `7C (0ddd)0 73 (0bbb)0` (R245). -/
  | btst_imm_ind (bit : BitVec 3) (erd : Reg3)
  /-- `BTST #xx:3,@aa:8`: `7E aa 73 (0bbb)0` (R245). -/
  | btst_imm_aa8 (bit : BitVec 3) (aa : Byte)
  /-- `BTST Rn,Rd`: `63 nd` (R245). -/
  | btst_rn_rd (rn rd : Reg4)
  /-- `BTST Rn,@ERd`: `7C (0ddd)0 63 n0` (R245). -/
  | btst_rn_ind (rn : Reg4) (erd : Reg3)
  /-- `BTST Rn,@aa:8`: `7E aa 63 n0` (R245). -/
  | btst_rn_aa8 (rn : Reg4) (aa : Byte)
  /-- `BAND #xx:3,Rd`: `76 (0bbb)d` (R246). -/
  | band_imm_rd (bit : BitVec 3) (rd : Reg4)
  /-- `BAND #xx:3,@ERd`: `7C (0ddd)0 76 (0bbb)0` (R246). -/
  | band_imm_ind (bit : BitVec 3) (erd : Reg3)
  /-- `BAND #xx:3,@aa:8`: `7E aa 76 (0bbb)0` (R246). -/
  | band_imm_aa8 (bit : BitVec 3) (aa : Byte)
  /-- `BIAND #xx:3,Rd`: `76 (1bbb)d` (R247). -/
  | biand_imm_rd (bit : BitVec 3) (rd : Reg4)
  /-- `BIAND #xx:3,@ERd`: `7C (0ddd)0 76 (1bbb)0` (R247). -/
  | biand_imm_ind (bit : BitVec 3) (erd : Reg3)
  /-- `BIAND #xx:3,@aa:8`: `7E aa 76 (1bbb)0` (R247). -/
  | biand_imm_aa8 (bit : BitVec 3) (aa : Byte)
  /-- `BOR #xx:3,Rd`: `74 (0bbb)d` (R248). -/
  | bor_imm_rd (bit : BitVec 3) (rd : Reg4)
  /-- `BOR #xx:3,@ERd`: `7C (0ddd)0 74 (0bbb)0` (R248). -/
  | bor_imm_ind (bit : BitVec 3) (erd : Reg3)
  /-- `BOR #xx:3,@aa:8`: `7E aa 74 (0bbb)0` (R248). -/
  | bor_imm_aa8 (bit : BitVec 3) (aa : Byte)
  /-- `BIOR #xx:3,Rd`: `74 (1bbb)d` (R249). -/
  | bior_imm_rd (bit : BitVec 3) (rd : Reg4)
  /-- `BIOR #xx:3,@ERd`: `7C (0ddd)0 74 (1bbb)0` (R249). -/
  | bior_imm_ind (bit : BitVec 3) (erd : Reg3)
  /-- `BIOR #xx:3,@aa:8`: `7E aa 74 (1bbb)0` (R249). -/
  | bior_imm_aa8 (bit : BitVec 3) (aa : Byte)
  /-- `BXOR #xx:3,Rd`: `75 (0bbb)d` (R250). -/
  | bxor_imm_rd (bit : BitVec 3) (rd : Reg4)
  /-- `BXOR #xx:3,@ERd`: `7C (0ddd)0 75 (0bbb)0` (R250). -/
  | bxor_imm_ind (bit : BitVec 3) (erd : Reg3)
  /-- `BXOR #xx:3,@aa:8`: `7E aa 75 (0bbb)0` (R250). -/
  | bxor_imm_aa8 (bit : BitVec 3) (aa : Byte)
  /-- `BIXOR #xx:3,Rd`: `75 (1bbb)d` (R251). -/
  | bixor_imm_rd (bit : BitVec 3) (rd : Reg4)
  /-- `BIXOR #xx:3,@ERd`: `7C (0ddd)0 75 (1bbb)0` (R251). -/
  | bixor_imm_ind (bit : BitVec 3) (erd : Reg3)
  /-- `BIXOR #xx:3,@aa:8`: `7E aa 75 (1bbb)0` (R251). -/
  | bixor_imm_aa8 (bit : BitVec 3) (aa : Byte)
  /-- `BLD #xx:3,Rd`: `77 (0bbb)d` (R252). -/
  | bld_imm_rd (bit : BitVec 3) (rd : Reg4)
  /-- `BLD #xx:3,@ERd`: `7C (0ddd)0 77 (0bbb)0` (R252). -/
  | bld_imm_ind (bit : BitVec 3) (erd : Reg3)
  /-- `BLD #xx:3,@aa:8`: `7E aa 77 (0bbb)0` (R252). -/
  | bld_imm_aa8 (bit : BitVec 3) (aa : Byte)
  /-- `BILD #xx:3,Rd`: `77 (1bbb)d` (R253). -/
  | bild_imm_rd (bit : BitVec 3) (rd : Reg4)
  /-- `BILD #xx:3,@ERd`: `7C (0ddd)0 77 (1bbb)0` (R253). -/
  | bild_imm_ind (bit : BitVec 3) (erd : Reg3)
  /-- `BILD #xx:3,@aa:8`: `7E aa 77 (1bbb)0` (R253). -/
  | bild_imm_aa8 (bit : BitVec 3) (aa : Byte)
  /-- `BST #xx:3,Rd`: `67 (0bbb)d` (R254). -/
  | bst_imm_rd (bit : BitVec 3) (rd : Reg4)
  /-- `BST #xx:3,@ERd`: `7D (0ddd)0 67 (0bbb)0` (R254). -/
  | bst_imm_ind (bit : BitVec 3) (erd : Reg3)
  /-- `BST #xx:3,@aa:8`: `7F aa 67 (0bbb)0` (R254). -/
  | bst_imm_aa8 (bit : BitVec 3) (aa : Byte)
  /-- `BIST #xx:3,Rd`: `67 (1bbb)d` (R255). -/
  | bist_imm_rd (bit : BitVec 3) (rd : Reg4)
  /-- `BIST #xx:3,@ERd`: `7D (0ddd)0 67 (1bbb)0` (R255). -/
  | bist_imm_ind (bit : BitVec 3) (erd : Reg3)
  /-- `BIST #xx:3,@aa:8`: `7F aa 67 (1bbb)0` (R255). -/
  | bist_imm_aa8 (bit : BitVec 3) (aa : Byte)
  -- Control transfer (44_control_transfer.md)
  /-- `BRA d:8`: `40 pp` (R262). -/
  | bra_d8 (disp : Byte)
  /-- `BRN d:8`: `41 pp` (R262). -/
  | brn_d8 (disp : Byte)
  /-- `BHI d:8`: `42 pp` (R262). -/
  | bhi_d8 (disp : Byte)
  /-- `BLS d:8`: `43 pp` (R262). -/
  | bls_d8 (disp : Byte)
  /-- `BCC d:8`: `44 pp` (R262). -/
  | bcc_d8 (disp : Byte)
  /-- `BCS d:8`: `45 pp` (R262). -/
  | bcs_d8 (disp : Byte)
  /-- `BNE d:8`: `46 pp` (R262). -/
  | bne_d8 (disp : Byte)
  /-- `BEQ d:8`: `47 pp` (R262). -/
  | beq_d8 (disp : Byte)
  /-- `BVC d:8`: `48 pp` (R262). -/
  | bvc_d8 (disp : Byte)
  /-- `BVS d:8`: `49 pp` (R262). -/
  | bvs_d8 (disp : Byte)
  /-- `BPL d:8`: `4A pp` (R262). -/
  | bpl_d8 (disp : Byte)
  /-- `BMI d:8`: `4B pp` (R262). -/
  | bmi_d8 (disp : Byte)
  /-- `BGE d:8`: `4C pp` (R262). -/
  | bge_d8 (disp : Byte)
  /-- `BLT d:8`: `4D pp` (R262). -/
  | blt_d8 (disp : Byte)
  /-- `BGT d:8`: `4E pp` (R262). -/
  | bgt_d8 (disp : Byte)
  /-- `BLE d:8`: `4F pp` (R262). -/
  | ble_d8 (disp : Byte)
  /-- `BRA d:16`: `58 00 pp pp` (R262). -/
  | bra_d16 (disp : Word)
  /-- `BRN d:16`: `58 10 pp pp` (R262). -/
  | brn_d16 (disp : Word)
  /-- `BHI d:16`: `58 20 pp pp` (R262). -/
  | bhi_d16 (disp : Word)
  /-- `BLS d:16`: `58 30 pp pp` (R262). -/
  | bls_d16 (disp : Word)
  /-- `BCC d:16`: `58 40 pp pp` (R262). -/
  | bcc_d16 (disp : Word)
  /-- `BCS d:16`: `58 50 pp pp` (R262). -/
  | bcs_d16 (disp : Word)
  /-- `BNE d:16`: `58 60 pp pp` (R262). -/
  | bne_d16 (disp : Word)
  /-- `BEQ d:16`: `58 70 pp pp` (R262). -/
  | beq_d16 (disp : Word)
  /-- `BVC d:16`: `58 80 pp pp` (R262). -/
  | bvc_d16 (disp : Word)
  /-- `BVS d:16`: `58 90 pp pp` (R262). -/
  | bvs_d16 (disp : Word)
  /-- `BPL d:16`: `58 A0 pp pp` (R262). -/
  | bpl_d16 (disp : Word)
  /-- `BMI d:16`: `58 B0 pp pp` (R262). -/
  | bmi_d16 (disp : Word)
  /-- `BGE d:16`: `58 C0 pp pp` (R262). -/
  | bge_d16 (disp : Word)
  /-- `BLT d:16`: `58 D0 pp pp` (R262). -/
  | blt_d16 (disp : Word)
  /-- `BGT d:16`: `58 E0 pp pp` (R262). -/
  | bgt_d16 (disp : Word)
  /-- `BLE d:16`: `58 F0 pp pp` (R262). -/
  | ble_d16 (disp : Word)
  /-- `JMP @ERn`: `59 (0eee)0` (R263). -/
  | jmp_ind (ern : Reg3)
  /-- `JMP @aa:24`: `5A aa aa aa` (R263). -/
  | jmp_aa24 (aa : BitVec 24)
  /-- `JMP @@aa:8`: `5B aa` (R263). -/
  | jmp_memInd (aa : Byte)
  /-- `JSR @ERn`: `5D (0eee)0` (R264). -/
  | jsr_ind (ern : Reg3)
  /-- `JSR @aa:24`: `5E aa aa aa` (R264). -/
  | jsr_aa24 (aa : BitVec 24)
  /-- `JSR @@aa:8`: `5F aa` (R264). -/
  | jsr_memInd (aa : Byte)
  /-- `BSR d:8`: `55 pp` (R266). -/
  | bsr_d8 (disp : Byte)
  /-- `BSR d:16`: `5C 00 pp pp` (R266). -/
  | bsr_d16 (disp : Word)
  /-- `RTS`: `54 70` (R267). -/
  | rts
  /-- `RTE`: `56 70` (R268). -/
  | rte
  -- System instructions and block transfer (45_system.md)
  /-- `ANDC #xx:8,CCR`: `06 ii` (R281). -/
  | andc (imm : Byte)
  /-- `ORC #xx:8,CCR`: `04 ii` (R282). -/
  | orc (imm : Byte)
  /-- `XORC #xx:8,CCR`: `05 ii` (R283). -/
  | xorc (imm : Byte)
  /-- `LDC #xx:8,CCR`: `07 ii` (R284). -/
  | ldc_imm (imm : Byte)
  /-- `LDC Rs,CCR`: `03 0s` (R284). -/
  | ldc_rs (rs : Reg4)
  /-- `LDC @ERs,CCR`: `01 40 69 (0sss)0` (R285). -/
  | ldc_ind (ers : Reg3)
  /-- `LDC @(d:16,ERs),CCR`: `01 40 6F (0sss)0 pp pp` (R285). -/
  | ldc_d16 (disp : Word) (ers : Reg3)
  /-- `LDC @(d:24,ERs),CCR`: `01 40 78 (0sss)0 6B 20 00 pp pp pp` (R285). -/
  | ldc_d24 (disp : Long) (ers : Reg3)
  /-- `LDC @ERs+,CCR`: `01 40 6D (0sss)0` (R285). -/
  | ldc_postInc (ers : Reg3)
  /-- `LDC @aa:16,CCR`: `01 40 6B 00 aa aa` (R285). -/
  | ldc_aa16 (aa : Word)
  /-- `LDC @aa:24,CCR`: `01 40 6B 20 00 aa aa aa` (R285). -/
  | ldc_aa24 (aa : Long)
  /-- `STC CCR,Rd`: `02 0d` (R286). -/
  | stc_rd (rd : Reg4)
  /-- `STC CCR,@ERd`: `01 40 69 (1ddd)0` (R287). -/
  | stc_ind (erd : Reg3)
  /-- `STC CCR,@(d:16,ERd)`: `01 40 6F (1ddd)0 pp pp` (R287). -/
  | stc_d16 (disp : Word) (erd : Reg3)
  /-- `STC CCR,@(d:24,ERd)`: `01 40 78 (0ddd)0 6B A0 00 pp pp pp` (R287). -/
  | stc_d24 (disp : Long) (erd : Reg3)
  /-- `STC CCR,@-ERd`: `01 40 6D (1ddd)0` (R287). -/
  | stc_preDec (erd : Reg3)
  /-- `STC CCR,@aa:16`: `01 40 6B 80 aa aa` (R287). -/
  | stc_aa16 (aa : Word)
  /-- `STC CCR,@aa:24`: `01 40 6B A0 00 aa aa aa` (R287). -/
  | stc_aa24 (aa : Long)
  /-- `NOP`: `00 00` (R288). -/
  | nop
  /-- `SLEEP`: `01 80` (R289). -/
  | sleep
  /-- `TRAPA #x:2`: `57 (00vv)0` (R290). -/
  | trapa (vec : BitVec 2)
  /-- `EEPMOV.B`: `7B 5C 59 8F` (R292). -/
  | eepmovB
  /-- `EEPMOV.W`: `7B D4 59 8F` (R293). -/
  | eepmovW
  deriving DecidableEq, Repr

end Sys2Proof
end

