-- ==== Sys2Proof/Machine/Arithmetic.lean ====
section
/-! DEFINITION. The meanings of the arithmetic instructions (41_arithmetic.md), one definition per row of the opcode
table.
No arithmetic instruction raises an exception (R170). The results that the specification leaves open are
the divide corners (R189) and what DAA and DAS give outside their tables and do to H and V (R185, R186);
each follows its parameter: the default the specification names, a function of the inputs that is passed
(assumption 1), or a free value (assumption 2). -/

/-- The value at input `k`, `dflt` being the default there and `conv` reading a listed value; none where
any value may result. -/
def Sys2Proof.OpenResult.settle {κ ν β : Type} [DecidableEq κ] (o : Sys2Proof.OpenResult κ ν) (k : κ)
    (conv : ν → β) (dflt : β) :
    Option β :=
  match o with
  | .specDefault => some dflt
  | .given table =>
    match table.lookup k with
    | some v => some (conv v)
    | none => some dflt
  | .anyValue => none

namespace Sys2Proof.Machine

/-! ## Decimal adjust -/

/-- One row of the tables of R185 and R186: C, the range of the high digit, H, the range of the low digit,
what is added and C after. -/
structure AdjustRow where
  c : Bool
  hiFrom : Nat
  hiTo : Nat
  h : Bool
  loFrom : Nat
  loTo : Nat
  addend : Byte
  cAfter : Bool
  deriving DecidableEq, Repr

/-- The table of DAA (R185). -/
def daaTable : List AdjustRow :=
  [ ⟨false, 0x0, 0x9, false, 0x0, 0x9, 0x00, false⟩,
    ⟨false, 0x0, 0x8, false, 0xA, 0xF, 0x06, false⟩,
    ⟨false, 0x0, 0x9, true, 0x0, 0x3, 0x06, false⟩,
    ⟨false, 0xA, 0xF, false, 0x0, 0x9, 0x60, true⟩,
    ⟨false, 0x9, 0xF, false, 0xA, 0xF, 0x66, true⟩,
    ⟨false, 0xA, 0xF, true, 0x0, 0x3, 0x66, true⟩,
    ⟨true, 0x0, 0x2, false, 0x0, 0x9, 0x60, true⟩,
    ⟨true, 0x0, 0x2, false, 0xA, 0xF, 0x66, true⟩,
    ⟨true, 0x0, 0x3, true, 0x0, 0x3, 0x66, true⟩ ]

/-- The table of DAS (R186). -/
def dasTable : List AdjustRow :=
  [ ⟨false, 0x0, 0x9, false, 0x0, 0x9, 0x00, false⟩,
    ⟨false, 0x0, 0x8, true, 0x6, 0xF, 0xFA, false⟩,
    ⟨true, 0x7, 0xF, false, 0x0, 0x9, 0xA0, true⟩,
    ⟨true, 0x6, 0xF, true, 0x6, 0xF, 0x9A, true⟩ ]

/-- Whether a row of a table applies to C, H and the byte. -/
def AdjustRow.applies (row : AdjustRow) (c h : Bool) (a : Byte) : Bool :=
  row.c == c && row.h == h
    && decide (row.hiFrom ≤ (a.extractLsb' 4 4).toNat) && decide ((a.extractLsb' 4 4).toNat ≤ row.hiTo)
    && decide (row.loFrom ≤ (a.extractLsb' 0 4).toNat) && decide ((a.extractLsb' 0 4).toNat ≤ row.loTo)

/-- What a table says of its inputs: what to add and C after, or nothing. -/
def tableAdjust (table : List AdjustRow) (i : AdjustInput) : Option Adjustment :=
  (table.find? (fun row => row.applies i.c i.h i.a)).map (fun row => ⟨row.addend, row.cAfter⟩)

/-- The default of `daa_adjust` (R185, decision D16). -/
def daaDefault (i : AdjustInput) : Adjustment :=
  let lo := (i.a.extractLsb' 0 4).toNat
  let hi := (i.a.extractLsb' 4 4).toNat
  let low : Byte := if i.h || decide (9 < lo) then 0x06 else 0
  if i.c || decide (9 < hi) || (decide (hi = 9) && decide (9 < lo)) then ⟨low + 0x60, true⟩ else ⟨low, i.c⟩

/-- The default of `das_adjust` (R186, decision D16). -/
def dasDefault (i : AdjustInput) : Adjustment :=
  ⟨(if i.h then 0xFA else 0) + (if i.c then 0xA0 else 0), i.c⟩

/-- What DAA and DAS read: C, H and the byte (R185, R186). -/
def State.adjustInput (s : State) (rd : Reg4) : AdjustInput := ⟨s.flag .c, s.flag .h, s.r8 rd⟩

/-- The adjusted byte written back, N and Z from it, and C (R185, R186). -/
def State.adjusted (s : State) (rd : Reg4) (r : Byte) (c : Bool) : State :=
  ((s.setR8 rd r).setNZOf r).setFlag .c c

/-- The result byte and C where every result outside the table is open: `x` is the free value. -/
def openAdjust (table : List AdjustRow) (i : AdjustInput) (x : BitVec 32) : Byte × Bool :=
  match tableAdjust table i with
  | some t => (i.a + t.addend, t.cAfter)
  | none => (x.extractLsb' 0 8, x.getLsbD 8)

/-- DAA and DAS (R185, R186), with `rule` the parameter and `dflt` its default: the adjustment is that of
the parameter's function, and H and V are left unchanged; under `anyValue` a result outside the table, and
H and V always, are free (93_implementation_defined.md U3). -/
def State.decimalAdjust (s : State) (rd : Reg4) (rule : OpenResult AdjustInput Adjustment)
    (dflt : AdjustInput → Adjustment) (table : List AdjustRow) : State :=
  let i := s.adjustInput rd
  match rule.settle i id (dflt i) with
  | some t => s.adjusted rd (i.a + t.addend) t.cAfter
  | none =>
    let x := s.takeFree
    let t := openAdjust table i x.1
    ((x.2.adjusted rd t.1 t.2).setFlag .h (x.1.getLsbD 9)).setFlag .v (x.1.getLsbD 10)

/-! ## Multiply and divide -/

/-- Unsigned product of two operands of width `w`, twice as wide (R187, R188). -/
def mulUnsigned {w : Nat} (a b : BitVec w) : BitVec (w + w) := BitVec.ofNat (w + w) (a.toNat * b.toNat)

/-- Signed product of two operands of width `w`, twice as wide (R194, R195). -/
def mulSigned {w : Nat} (a b : BitVec w) : BitVec (w + w) := BitVec.ofInt (w + w) (a.toInt * b.toInt)

/-- The product of MULXS.B with its N and Z (R194). -/
def State.mulResultW (s : State) (rd : Reg4) (p : Word) : State := (s.setR16 rd p).setNZOf p

/-- The product of MULXS.W with its N and Z (R195). -/
def State.mulResultL (s : State) (erd : Reg3) (p : Long) : State := (s.setReg erd p).setNZOf p

/-- The three input classes of a divide (R189). -/
inductive DivideClass where
  | fits
  | zeroDivisor
  | overflow
  deriving DecidableEq, Repr

/-- What a divide of a dividend `w + w` bits wide gives: its class, its operands as `div_corner` sees them,
N and Z by the rule, and the low bits of the true remainder above the low bits of the true quotient. -/
structure DivideResult (w : Nat) where
  cls : DivideClass
  input : DivideInput
  n : Bool
  z : Bool
  value : BitVec (w + w)
  deriving DecidableEq, Repr

/-- The operands of a divide, as `div_corner` sees them. -/
def divideInput {w : Nat} (signed : Bool) (n : BitVec (w + w)) (m : BitVec w) : DivideInput where
  signed := signed
  long := decide (w = 16)
  dividend := n.setWidth 32
  divisor := m.setWidth 16

/-- DIVXU (R190, R191): N is the top bit of the divisor, Z is set exactly when the divisor is 0. -/
def divUnsigned {w : Nat} (n : BitVec (w + w)) (m : BitVec w) : DivideResult w :=
  { cls :=
      if m.toNat = 0 then .zeroDivisor
      else if 2 ^ w ≤ n.toNat / m.toNat then .overflow
      else .fits
    input := divideInput false n m
    n := m.msb
    z := decide (m.toNat = 0)
    value := BitVec.ofNat w (n.toNat % m.toNat) ++ BitVec.ofNat w (n.toNat / m.toNat) }

/-- N of DIVXS (R192): the sign of the quotient, 0 on a zero divisor; or the exclusive or of the operand
signs in every case. -/
def divxsN {w : Nat} (rule : DivxsNRule) (n : BitVec (w + w)) (m : BitVec w) : Bool :=
  match rule with
  | .quotientSign => decide (m.toInt ≠ 0) && decide (n.toInt.tdiv m.toInt < 0)
  | .operandSignXor => n.msb ^^ m.msb

/-- DIVXS (R192, R193): the quotient truncates toward zero and the remainder has the dividend's sign. -/
def divSigned {w : Nat} (rule : DivxsNRule) (n : BitVec (w + w)) (m : BitVec w) : DivideResult w :=
  { cls :=
      if m.toInt = 0 then .zeroDivisor
      else if n.toInt.tdiv m.toInt < -(2 ^ (w - 1)) ∨ 2 ^ (w - 1) ≤ n.toInt.tdiv m.toInt then .overflow
      else .fits
    input := divideInput true n m
    n := divxsN rule n m
    z := decide (m.toInt = 0)
    value := BitVec.ofInt w (n.toInt.tmod m.toInt) ++ BitVec.ofInt w (n.toInt.tdiv m.toInt) }

/-- The value a divide writes and the state with its flags, `old` being the destination before (R189). On
a zero divisor and on a quotient that does not fit the value is that of `div_corner`, whose default leaves
the destination as it is on a zero divisor and writes `value` on an overflow. Under `anyValue` the
destination is free in both, and so are N and Z in the overflow case (93_implementation_defined.md U4). -/
def State.divided {w : Nat} (s : State) (d : DivideResult w) (old : BitVec (w + w)) :
    BitVec (w + w) × State :=
  match d.cls with
  | .fits => (d.value, s.setNZ d.n d.z)
  | .zeroDivisor =>
    match s.params.divCorner.settle d.input (fun v => v.setWidth (w + w)) old with
    | some v => (v, s.setNZ d.n d.z)
    | none =>
      let x := s.takeFree
      (x.1.setWidth (w + w), x.2.setNZ d.n d.z)
  | .overflow =>
    match s.params.divCorner.settle d.input (fun v => v.setWidth (w + w)) d.value with
    | some v => (v, s.setNZ d.n d.z)
    | none =>
      let x := s.takeFree
      let y := x.2.takeFree
      (x.1.setWidth (w + w), y.2.setNZ (y.1.getLsbD 0) (y.1.getLsbD 1))

/-- A divide with a word destination (R190, R192). -/
def State.divideW (s : State) (rd : Reg4) (d : DivideResult 8) : State :=
  let x := s.divided d (s.r16 rd)
  x.2.setR16 rd x.1

/-- A divide with a long destination (R191, R193). -/
def State.divideL (s : State) (erd : Reg3) (d : DivideResult 16) : State :=
  let x := s.divided d (s.reg erd)
  x.2.setReg erd x.1

/-! ## Zero extension -/

/-- N and V cleared, Z from the result (R202). -/
def State.extendFlags {w : Nat} (s : State) (r : BitVec w) : State :=
  (s.setNZ false (decide (r = 0))).setFlag .v false

/-- EXTU.W's result (R202). -/
def State.extendUW (s : State) (rd : Reg4) (r : Word) : State := (s.setR16 rd r).extendFlags r

/-- EXTU.L's result (R202). -/
def State.extendUL (s : State) (erd : Reg3) (r : Long) : State := (s.setReg erd r).extendFlags r

/-! ## The instructions -/

/-- ADD.B #xx:8,Rd (R171). -/
def execAddB_imm_rd (imm : Byte) (rd : Reg4) (s : State) : Host.Outcome State Fault Refusal :=
  .next (s.arithB rd (addN (s.r8 rd) imm false))

/-- ADD.B Rs,Rd (R171). -/
def execAddB_rs_rd (rs rd : Reg4) (s : State) : Host.Outcome State Fault Refusal :=
  .next (s.arithB rd (addN (s.r8 rd) (s.r8 rs) false))

/-- ADD.W #xx:16,Rd (R172). -/
def execAddW_imm_rd (imm : Word) (rd : Reg4) (s : State) : Host.Outcome State Fault Refusal :=
  .next (s.arithW rd (addN (s.r16 rd) imm false))

/-- ADD.W Rs,Rd (R172). -/
def execAddW_rs_rd (rs rd : Reg4) (s : State) : Host.Outcome State Fault Refusal :=
  .next (s.arithW rd (addN (s.r16 rd) (s.r16 rs) false))

/-- ADD.L #xx:32,ERd (R173). -/
def execAddL_imm_erd (imm : Long) (erd : Reg3) (s : State) : Host.Outcome State Fault Refusal :=
  .next (s.arithL erd (addN (s.reg erd) imm false))

/-- ADD.L ERs,ERd (R173). -/
def execAddL_ers_erd (ers erd : Reg3) (s : State) : Host.Outcome State Fault Refusal :=
  .next (s.arithL erd (addN (s.reg erd) (s.reg ers) false))

/-- ADDS #1,ERd (R174). -/
def execAdds_1 (erd : Reg3) (s : State) : Host.Outcome State Fault Refusal :=
  .next (s.setReg erd (s.reg erd + 1))

/-- ADDS #2,ERd (R174). -/
def execAdds_2 (erd : Reg3) (s : State) : Host.Outcome State Fault Refusal :=
  .next (s.setReg erd (s.reg erd + 2))

/-- ADDS #4,ERd (R174). -/
def execAdds_4 (erd : Reg3) (s : State) : Host.Outcome State Fault Refusal :=
  .next (s.setReg erd (s.reg erd + 4))

/-- ADDX #xx:8,Rd (R175). -/
def execAddx_imm_rd (imm : Byte) (rd : Reg4) (s : State) : Host.Outcome State Fault Refusal :=
  .next (s.arithStickyB rd (addN (s.r8 rd) imm (s.flag .c)))

/-- ADDX Rs,Rd (R175). -/
def execAddx_rs_rd (rs rd : Reg4) (s : State) : Host.Outcome State Fault Refusal :=
  .next (s.arithStickyB rd (addN (s.r8 rd) (s.r8 rs) (s.flag .c)))

/-- SUB.B Rs,Rd (R176). -/
def execSubB_rs_rd (rs rd : Reg4) (s : State) : Host.Outcome State Fault Refusal :=
  .next (s.arithB rd (subN (s.r8 rd) (s.r8 rs) false))

/-- SUB.W #xx:16,Rd (R177). -/
def execSubW_imm_rd (imm : Word) (rd : Reg4) (s : State) : Host.Outcome State Fault Refusal :=
  .next (s.arithW rd (subN (s.r16 rd) imm false))

/-- SUB.W Rs,Rd (R177). -/
def execSubW_rs_rd (rs rd : Reg4) (s : State) : Host.Outcome State Fault Refusal :=
  .next (s.arithW rd (subN (s.r16 rd) (s.r16 rs) false))

/-- SUB.L #xx:32,ERd (R178). -/
def execSubL_imm_erd (imm : Long) (erd : Reg3) (s : State) : Host.Outcome State Fault Refusal :=
  .next (s.arithL erd (subN (s.reg erd) imm false))

/-- SUB.L ERs,ERd (R178). -/
def execSubL_ers_erd (ers erd : Reg3) (s : State) : Host.Outcome State Fault Refusal :=
  .next (s.arithL erd (subN (s.reg erd) (s.reg ers) false))

/-- SUBS #1,ERd (R179). -/
def execSubs_1 (erd : Reg3) (s : State) : Host.Outcome State Fault Refusal :=
  .next (s.setReg erd (s.reg erd - 1))

/-- SUBS #2,ERd (R179). -/
def execSubs_2 (erd : Reg3) (s : State) : Host.Outcome State Fault Refusal :=
  .next (s.setReg erd (s.reg erd - 2))

/-- SUBS #4,ERd (R179). -/
def execSubs_4 (erd : Reg3) (s : State) : Host.Outcome State Fault Refusal :=
  .next (s.setReg erd (s.reg erd - 4))

/-- SUBX #xx:8,Rd (R180). -/
def execSubx_imm_rd (imm : Byte) (rd : Reg4) (s : State) : Host.Outcome State Fault Refusal :=
  .next (s.arithStickyB rd (subN (s.r8 rd) imm (s.flag .c)))

/-- SUBX Rs,Rd (R180). -/
def execSubx_rs_rd (rs rd : Reg4) (s : State) : Host.Outcome State Fault Refusal :=
  .next (s.arithStickyB rd (subN (s.r8 rd) (s.r8 rs) (s.flag .c)))

/-- CMP.B #xx:8,Rd (R181). -/
def execCmpB_imm_rd (imm : Byte) (rd : Reg4) (s : State) : Host.Outcome State Fault Refusal :=
  .next (s.setArith (subN (s.r8 rd) imm false).2)

/-- CMP.B Rs,Rd (R181). -/
def execCmpB_rs_rd (rs rd : Reg4) (s : State) : Host.Outcome State Fault Refusal :=
  .next (s.setArith (subN (s.r8 rd) (s.r8 rs) false).2)

/-- CMP.W #xx:16,Rd (R182). -/
def execCmpW_imm_rd (imm : Word) (rd : Reg4) (s : State) : Host.Outcome State Fault Refusal :=
  .next (s.setArith (subN (s.r16 rd) imm false).2)

/-- CMP.W Rs,Rd (R182). -/
def execCmpW_rs_rd (rs rd : Reg4) (s : State) : Host.Outcome State Fault Refusal :=
  .next (s.setArith (subN (s.r16 rd) (s.r16 rs) false).2)

/-- CMP.L #xx:32,ERd (R183). -/
def execCmpL_imm_erd (imm : Long) (erd : Reg3) (s : State) : Host.Outcome State Fault Refusal :=
  .next (s.setArith (subN (s.reg erd) imm false).2)

/-- CMP.L ERs,ERd (R183). -/
def execCmpL_ers_erd (ers erd : Reg3) (s : State) : Host.Outcome State Fault Refusal :=
  .next (s.setArith (subN (s.reg erd) (s.reg ers) false).2)

/-- NEG.B Rd (R184). -/
def execNegB (rd : Reg4) (s : State) : Host.Outcome State Fault Refusal :=
  .next (s.arithB rd (subN 0 (s.r8 rd) false))

/-- NEG.W Rd (R184). -/
def execNegW (rd : Reg4) (s : State) : Host.Outcome State Fault Refusal :=
  .next (s.arithW rd (subN 0 (s.r16 rd) false))

/-- NEG.L ERd (R184). -/
def execNegL (erd : Reg3) (s : State) : Host.Outcome State Fault Refusal :=
  .next (s.arithL erd (subN 0 (s.reg erd) false))

/-- DAA Rd (R185). -/
def execDaa (rd : Reg4) (s : State) : Host.Outcome State Fault Refusal :=
  .next (s.decimalAdjust rd s.params.daaAdjust daaDefault daaTable)

/-- DAS Rd (R186). -/
def execDas (rd : Reg4) (s : State) : Host.Outcome State Fault Refusal :=
  .next (s.decimalAdjust rd s.params.dasAdjust dasDefault dasTable)

/-- MULXU.B Rs,Rd (R187). -/
def execMulxuB_rs_rd (rs rd : Reg4) (s : State) : Host.Outcome State Fault Refusal :=
  .next (s.setR16 rd (mulUnsigned ((s.r16 rd).setWidth 8) (s.r8 rs)))

/-- MULXU.W Rs,ERd (R188). -/
def execMulxuW_rs_erd (rs : Reg4) (erd : Reg3) (s : State) : Host.Outcome State Fault Refusal :=
  .next (s.setReg erd (mulUnsigned ((s.reg erd).setWidth 16) (s.r16 rs)))

/-- DIVXU.B Rs,Rd (R190). -/
def execDivxuB_rs_rd (rs rd : Reg4) (s : State) : Host.Outcome State Fault Refusal :=
  .next (s.divideW rd (divUnsigned (s.r16 rd) (s.r8 rs)))

/-- DIVXU.W Rs,ERd (R191). -/
def execDivxuW_rs_erd (rs : Reg4) (erd : Reg3) (s : State) : Host.Outcome State Fault Refusal :=
  .next (s.divideL erd (divUnsigned (s.reg erd) (s.r16 rs)))

/-- DIVXS.B Rs,Rd (R192). -/
def execDivxsB_rs_rd (rs rd : Reg4) (s : State) : Host.Outcome State Fault Refusal :=
  .next (s.divideW rd (divSigned s.params.divxsN (s.r16 rd) (s.r8 rs)))

/-- DIVXS.W Rs,ERd (R193). -/
def execDivxsW_rs_erd (rs : Reg4) (erd : Reg3) (s : State) : Host.Outcome State Fault Refusal :=
  .next (s.divideL erd (divSigned s.params.divxsN (s.reg erd) (s.r16 rs)))

/-- MULXS.B Rs,Rd (R194). -/
def execMulxsB_rs_rd (rs rd : Reg4) (s : State) : Host.Outcome State Fault Refusal :=
  .next (s.mulResultW rd (mulSigned ((s.r16 rd).setWidth 8) (s.r8 rs)))

/-- MULXS.W Rs,ERd (R195). -/
def execMulxsW_rs_erd (rs : Reg4) (erd : Reg3) (s : State) : Host.Outcome State Fault Refusal :=
  .next (s.mulResultL erd (mulSigned ((s.reg erd).setWidth 16) (s.r16 rs)))

/-- INC.B Rd (R196). -/
def execIncB (rd : Reg4) (s : State) : Host.Outcome State Fault Refusal :=
  .next (s.incB rd (s.r8 rd + 1) (s.r8 rd == 0x7F))

/-- INC.W #1,Rd (R197). -/
def execIncW_1 (rd : Reg4) (s : State) : Host.Outcome State Fault Refusal :=
  .next (s.incW rd (s.r16 rd + 1) (!(s.r16 rd).msb && (s.r16 rd + 1).msb))

/-- INC.W #2,Rd (R197). -/
def execIncW_2 (rd : Reg4) (s : State) : Host.Outcome State Fault Refusal :=
  .next (s.incW rd (s.r16 rd + 2) (!(s.r16 rd).msb && (s.r16 rd + 2).msb))

/-- INC.L #1,ERd (R198). -/
def execIncL_1 (erd : Reg3) (s : State) : Host.Outcome State Fault Refusal :=
  .next (s.incL erd (s.reg erd + 1) (!(s.reg erd).msb && (s.reg erd + 1).msb))

/-- INC.L #2,ERd (R198). -/
def execIncL_2 (erd : Reg3) (s : State) : Host.Outcome State Fault Refusal :=
  .next (s.incL erd (s.reg erd + 2) (!(s.reg erd).msb && (s.reg erd + 2).msb))

/-- DEC.B Rd (R199). -/
def execDecB (rd : Reg4) (s : State) : Host.Outcome State Fault Refusal :=
  .next (s.incB rd (s.r8 rd - 1) (s.r8 rd == 0x80))

/-- DEC.W #1,Rd (R200). -/
def execDecW_1 (rd : Reg4) (s : State) : Host.Outcome State Fault Refusal :=
  .next (s.incW rd (s.r16 rd - 1) ((s.r16 rd).msb && !(s.r16 rd - 1).msb))

/-- DEC.W #2,Rd (R200). -/
def execDecW_2 (rd : Reg4) (s : State) : Host.Outcome State Fault Refusal :=
  .next (s.incW rd (s.r16 rd - 2) ((s.r16 rd).msb && !(s.r16 rd - 2).msb))

/-- DEC.L #1,ERd (R201). -/
def execDecL_1 (erd : Reg3) (s : State) : Host.Outcome State Fault Refusal :=
  .next (s.incL erd (s.reg erd - 1) ((s.reg erd).msb && !(s.reg erd - 1).msb))

/-- DEC.L #2,ERd (R201). -/
def execDecL_2 (erd : Reg3) (s : State) : Host.Outcome State Fault Refusal :=
  .next (s.incL erd (s.reg erd - 2) ((s.reg erd).msb && !(s.reg erd - 2).msb))

/-- EXTU.W Rd (R202). -/
def execExtuW (rd : Reg4) (s : State) : Host.Outcome State Fault Refusal :=
  .next (s.extendUW rd (((s.r16 rd).setWidth 8).setWidth 16))

/-- EXTU.L ERd (R202). -/
def execExtuL (erd : Reg3) (s : State) : Host.Outcome State Fault Refusal :=
  .next (s.extendUL erd (((s.reg erd).setWidth 16).setWidth 32))

/-- EXTS.W Rd (R203). -/
def execExtsW (rd : Reg4) (s : State) : Host.Outcome State Fault Refusal :=
  .next (s.moveW rd (((s.r16 rd).setWidth 8).signExtend 16))

/-- EXTS.L ERd (R203). -/
def execExtsL (erd : Reg3) (s : State) : Host.Outcome State Fault Refusal :=
  .next (s.moveL erd (((s.reg erd).setWidth 16).signExtend 32))

end Sys2Proof.Machine
end

