-- ==== Sys2Proof/Machine/BitManipulation.lean ====
section
/-! DEFINITION. The meanings of the bit-manipulation instructions (43_bit_manipulation.md), one definition per row of the opcode
table.
The byte and the bit number are those of R241; the memory forms read once and, for the five writing
instructions, write once, always. -/

namespace Sys2Proof.Machine

/-- BSET #xx:3,Rd (R242). -/
def execBset_imm_rd (bit : BitVec 3) (rd : Reg4) (s : State) : Host.Outcome State Fault Refusal :=
  .next (s.modifyBitR rd bit.toNat (fun _ => true))

/-- BSET #xx:3,@ERd (R242). -/
def execBset_imm_ind (bit : BitVec 3) (erd : Reg3) (s : State) : Host.Outcome State Fault Refusal :=
  .next (s.modifyBit (s.eaInd erd) bit.toNat (fun _ => true))

/-- BSET #xx:3,@aa:8 (R242). -/
def execBset_imm_aa8 (bit : BitVec 3) (aa : Byte) (s : State) : Host.Outcome State Fault Refusal :=
  .next (s.modifyBit (eaAa8 aa) bit.toNat (fun _ => true))

/-- BSET Rn,Rd (R242). -/
def execBset_rn_rd (rn rd : Reg4) (s : State) : Host.Outcome State Fault Refusal :=
  .next (s.modifyBitR rd (s.bitNumber rn) (fun _ => true))

/-- BSET Rn,@ERd (R242). -/
def execBset_rn_ind (rn : Reg4) (erd : Reg3) (s : State) : Host.Outcome State Fault Refusal :=
  .next (s.modifyBit (s.eaInd erd) (s.bitNumber rn) (fun _ => true))

/-- BSET Rn,@aa:8 (R242). -/
def execBset_rn_aa8 (rn : Reg4) (aa : Byte) (s : State) : Host.Outcome State Fault Refusal :=
  .next (s.modifyBit (eaAa8 aa) (s.bitNumber rn) (fun _ => true))

/-- BCLR #xx:3,Rd (R243). -/
def execBclr_imm_rd (bit : BitVec 3) (rd : Reg4) (s : State) : Host.Outcome State Fault Refusal :=
  .next (s.modifyBitR rd bit.toNat (fun _ => false))

/-- BCLR #xx:3,@ERd (R243). -/
def execBclr_imm_ind (bit : BitVec 3) (erd : Reg3) (s : State) : Host.Outcome State Fault Refusal :=
  .next (s.modifyBit (s.eaInd erd) bit.toNat (fun _ => false))

/-- BCLR #xx:3,@aa:8 (R243). -/
def execBclr_imm_aa8 (bit : BitVec 3) (aa : Byte) (s : State) : Host.Outcome State Fault Refusal :=
  .next (s.modifyBit (eaAa8 aa) bit.toNat (fun _ => false))

/-- BCLR Rn,Rd (R243). -/
def execBclr_rn_rd (rn rd : Reg4) (s : State) : Host.Outcome State Fault Refusal :=
  .next (s.modifyBitR rd (s.bitNumber rn) (fun _ => false))

/-- BCLR Rn,@ERd (R243). -/
def execBclr_rn_ind (rn : Reg4) (erd : Reg3) (s : State) : Host.Outcome State Fault Refusal :=
  .next (s.modifyBit (s.eaInd erd) (s.bitNumber rn) (fun _ => false))

/-- BCLR Rn,@aa:8 (R243). -/
def execBclr_rn_aa8 (rn : Reg4) (aa : Byte) (s : State) : Host.Outcome State Fault Refusal :=
  .next (s.modifyBit (eaAa8 aa) (s.bitNumber rn) (fun _ => false))

/-- BNOT #xx:3,Rd (R244). -/
def execBnot_imm_rd (bit : BitVec 3) (rd : Reg4) (s : State) : Host.Outcome State Fault Refusal :=
  .next (s.modifyBitR rd bit.toNat (fun x => !x))

/-- BNOT #xx:3,@ERd (R244). -/
def execBnot_imm_ind (bit : BitVec 3) (erd : Reg3) (s : State) : Host.Outcome State Fault Refusal :=
  .next (s.modifyBit (s.eaInd erd) bit.toNat (fun x => !x))

/-- BNOT #xx:3,@aa:8 (R244). -/
def execBnot_imm_aa8 (bit : BitVec 3) (aa : Byte) (s : State) : Host.Outcome State Fault Refusal :=
  .next (s.modifyBit (eaAa8 aa) bit.toNat (fun x => !x))

/-- BNOT Rn,Rd (R244). -/
def execBnot_rn_rd (rn rd : Reg4) (s : State) : Host.Outcome State Fault Refusal :=
  .next (s.modifyBitR rd (s.bitNumber rn) (fun x => !x))

/-- BNOT Rn,@ERd (R244). -/
def execBnot_rn_ind (rn : Reg4) (erd : Reg3) (s : State) : Host.Outcome State Fault Refusal :=
  .next (s.modifyBit (s.eaInd erd) (s.bitNumber rn) (fun x => !x))

/-- BNOT Rn,@aa:8 (R244). -/
def execBnot_rn_aa8 (rn : Reg4) (aa : Byte) (s : State) : Host.Outcome State Fault Refusal :=
  .next (s.modifyBit (eaAa8 aa) (s.bitNumber rn) (fun x => !x))

/-- BTST #xx:3,Rd (R245). -/
def execBtst_imm_rd (bit : BitVec 3) (rd : Reg4) (s : State) : Host.Outcome State Fault Refusal :=
  .next (s.testBit (s.r8 rd) bit.toNat)

/-- BTST #xx:3,@ERd (R245). -/
def execBtst_imm_ind (bit : BitVec 3) (erd : Reg3) (s : State) : Host.Outcome State Fault Refusal :=
  .next (s.testBitAt (s.eaInd erd) bit.toNat)

/-- BTST #xx:3,@aa:8 (R245). -/
def execBtst_imm_aa8 (bit : BitVec 3) (aa : Byte) (s : State) : Host.Outcome State Fault Refusal :=
  .next (s.testBitAt (eaAa8 aa) bit.toNat)

/-- BTST Rn,Rd (R245). -/
def execBtst_rn_rd (rn rd : Reg4) (s : State) : Host.Outcome State Fault Refusal :=
  .next (s.testBit (s.r8 rd) (s.bitNumber rn))

/-- BTST Rn,@ERd (R245). -/
def execBtst_rn_ind (rn : Reg4) (erd : Reg3) (s : State) : Host.Outcome State Fault Refusal :=
  .next (s.testBitAt (s.eaInd erd) (s.bitNumber rn))

/-- BTST Rn,@aa:8 (R245). -/
def execBtst_rn_aa8 (rn : Reg4) (aa : Byte) (s : State) : Host.Outcome State Fault Refusal :=
  .next (s.testBitAt (eaAa8 aa) (s.bitNumber rn))

/-- BAND #xx:3,Rd (R246). -/
def execBand_imm_rd (bit : BitVec 3) (rd : Reg4) (s : State) : Host.Outcome State Fault Refusal :=
  .next (s.carryBit (s.r8 rd) bit.toNat (fun c x => c && x))

/-- BAND #xx:3,@ERd (R246). -/
def execBand_imm_ind (bit : BitVec 3) (erd : Reg3) (s : State) : Host.Outcome State Fault Refusal :=
  .next (s.carryBitAt (s.eaInd erd) bit.toNat (fun c x => c && x))

/-- BAND #xx:3,@aa:8 (R246). -/
def execBand_imm_aa8 (bit : BitVec 3) (aa : Byte) (s : State) : Host.Outcome State Fault Refusal :=
  .next (s.carryBitAt (eaAa8 aa) bit.toNat (fun c x => c && x))

/-- BIAND #xx:3,Rd (R247). -/
def execBiand_imm_rd (bit : BitVec 3) (rd : Reg4) (s : State) : Host.Outcome State Fault Refusal :=
  .next (s.carryBit (s.r8 rd) bit.toNat (fun c x => c && !x))

/-- BIAND #xx:3,@ERd (R247). -/
def execBiand_imm_ind (bit : BitVec 3) (erd : Reg3) (s : State) : Host.Outcome State Fault Refusal :=
  .next (s.carryBitAt (s.eaInd erd) bit.toNat (fun c x => c && !x))

/-- BIAND #xx:3,@aa:8 (R247). -/
def execBiand_imm_aa8 (bit : BitVec 3) (aa : Byte) (s : State) : Host.Outcome State Fault Refusal :=
  .next (s.carryBitAt (eaAa8 aa) bit.toNat (fun c x => c && !x))

/-- BOR #xx:3,Rd (R248). -/
def execBor_imm_rd (bit : BitVec 3) (rd : Reg4) (s : State) : Host.Outcome State Fault Refusal :=
  .next (s.carryBit (s.r8 rd) bit.toNat (fun c x => c || x))

/-- BOR #xx:3,@ERd (R248). -/
def execBor_imm_ind (bit : BitVec 3) (erd : Reg3) (s : State) : Host.Outcome State Fault Refusal :=
  .next (s.carryBitAt (s.eaInd erd) bit.toNat (fun c x => c || x))

/-- BOR #xx:3,@aa:8 (R248). -/
def execBor_imm_aa8 (bit : BitVec 3) (aa : Byte) (s : State) : Host.Outcome State Fault Refusal :=
  .next (s.carryBitAt (eaAa8 aa) bit.toNat (fun c x => c || x))

/-- BIOR #xx:3,Rd (R249). -/
def execBior_imm_rd (bit : BitVec 3) (rd : Reg4) (s : State) : Host.Outcome State Fault Refusal :=
  .next (s.carryBit (s.r8 rd) bit.toNat (fun c x => c || !x))

/-- BIOR #xx:3,@ERd (R249). -/
def execBior_imm_ind (bit : BitVec 3) (erd : Reg3) (s : State) : Host.Outcome State Fault Refusal :=
  .next (s.carryBitAt (s.eaInd erd) bit.toNat (fun c x => c || !x))

/-- BIOR #xx:3,@aa:8 (R249). -/
def execBior_imm_aa8 (bit : BitVec 3) (aa : Byte) (s : State) : Host.Outcome State Fault Refusal :=
  .next (s.carryBitAt (eaAa8 aa) bit.toNat (fun c x => c || !x))

/-- BXOR #xx:3,Rd (R250). -/
def execBxor_imm_rd (bit : BitVec 3) (rd : Reg4) (s : State) : Host.Outcome State Fault Refusal :=
  .next (s.carryBit (s.r8 rd) bit.toNat (fun c x => c ^^ x))

/-- BXOR #xx:3,@ERd (R250). -/
def execBxor_imm_ind (bit : BitVec 3) (erd : Reg3) (s : State) : Host.Outcome State Fault Refusal :=
  .next (s.carryBitAt (s.eaInd erd) bit.toNat (fun c x => c ^^ x))

/-- BXOR #xx:3,@aa:8 (R250). -/
def execBxor_imm_aa8 (bit : BitVec 3) (aa : Byte) (s : State) : Host.Outcome State Fault Refusal :=
  .next (s.carryBitAt (eaAa8 aa) bit.toNat (fun c x => c ^^ x))

/-- BIXOR #xx:3,Rd (R251). -/
def execBixor_imm_rd (bit : BitVec 3) (rd : Reg4) (s : State) : Host.Outcome State Fault Refusal :=
  .next (s.carryBit (s.r8 rd) bit.toNat (fun c x => c ^^ !x))

/-- BIXOR #xx:3,@ERd (R251). -/
def execBixor_imm_ind (bit : BitVec 3) (erd : Reg3) (s : State) : Host.Outcome State Fault Refusal :=
  .next (s.carryBitAt (s.eaInd erd) bit.toNat (fun c x => c ^^ !x))

/-- BIXOR #xx:3,@aa:8 (R251). -/
def execBixor_imm_aa8 (bit : BitVec 3) (aa : Byte) (s : State) : Host.Outcome State Fault Refusal :=
  .next (s.carryBitAt (eaAa8 aa) bit.toNat (fun c x => c ^^ !x))

/-- BLD #xx:3,Rd (R252). -/
def execBld_imm_rd (bit : BitVec 3) (rd : Reg4) (s : State) : Host.Outcome State Fault Refusal :=
  .next (s.carryBit (s.r8 rd) bit.toNat (fun _ x => x))

/-- BLD #xx:3,@ERd (R252). -/
def execBld_imm_ind (bit : BitVec 3) (erd : Reg3) (s : State) : Host.Outcome State Fault Refusal :=
  .next (s.carryBitAt (s.eaInd erd) bit.toNat (fun _ x => x))

/-- BLD #xx:3,@aa:8 (R252). -/
def execBld_imm_aa8 (bit : BitVec 3) (aa : Byte) (s : State) : Host.Outcome State Fault Refusal :=
  .next (s.carryBitAt (eaAa8 aa) bit.toNat (fun _ x => x))

/-- BILD #xx:3,Rd (R253). -/
def execBild_imm_rd (bit : BitVec 3) (rd : Reg4) (s : State) : Host.Outcome State Fault Refusal :=
  .next (s.carryBit (s.r8 rd) bit.toNat (fun _ x => !x))

/-- BILD #xx:3,@ERd (R253). -/
def execBild_imm_ind (bit : BitVec 3) (erd : Reg3) (s : State) : Host.Outcome State Fault Refusal :=
  .next (s.carryBitAt (s.eaInd erd) bit.toNat (fun _ x => !x))

/-- BILD #xx:3,@aa:8 (R253). -/
def execBild_imm_aa8 (bit : BitVec 3) (aa : Byte) (s : State) : Host.Outcome State Fault Refusal :=
  .next (s.carryBitAt (eaAa8 aa) bit.toNat (fun _ x => !x))

/-- BST #xx:3,Rd (R254). -/
def execBst_imm_rd (bit : BitVec 3) (rd : Reg4) (s : State) : Host.Outcome State Fault Refusal :=
  .next (s.modifyBitR rd bit.toNat (fun _ => s.flag .c))

/-- BST #xx:3,@ERd (R254). -/
def execBst_imm_ind (bit : BitVec 3) (erd : Reg3) (s : State) : Host.Outcome State Fault Refusal :=
  .next (s.modifyBit (s.eaInd erd) bit.toNat (fun _ => s.flag .c))

/-- BST #xx:3,@aa:8 (R254). -/
def execBst_imm_aa8 (bit : BitVec 3) (aa : Byte) (s : State) : Host.Outcome State Fault Refusal :=
  .next (s.modifyBit (eaAa8 aa) bit.toNat (fun _ => s.flag .c))

/-- BIST #xx:3,Rd (R255). -/
def execBist_imm_rd (bit : BitVec 3) (rd : Reg4) (s : State) : Host.Outcome State Fault Refusal :=
  .next (s.modifyBitR rd bit.toNat (fun _ => !s.flag .c))

/-- BIST #xx:3,@ERd (R255). -/
def execBist_imm_ind (bit : BitVec 3) (erd : Reg3) (s : State) : Host.Outcome State Fault Refusal :=
  .next (s.modifyBit (s.eaInd erd) bit.toNat (fun _ => !s.flag .c))

/-- BIST #xx:3,@aa:8 (R255). -/
def execBist_imm_aa8 (bit : BitVec 3) (aa : Byte) (s : State) : Host.Outcome State Fault Refusal :=
  .next (s.modifyBit (eaAa8 aa) bit.toNat (fun _ => !s.flag .c))

end Sys2Proof.Machine
end

