-- ==== Sys2Proof/Machine/ControlTransfer.lean ====
section
/-! DEFINITION. The meanings of the control-transfer instructions (44_control_transfer.md), one definition per row of the opcode
table.
When an instruction's operation begins, PC already points past the whole instruction (R26). -/

namespace Sys2Proof.Machine

/-- Bcc (R262): the target is PC plus the displacement, modulo 2^24, when the condition holds. -/
def State.branch (s : State) (c : Cond) (disp : Long) : State :=
  if s.holds c then s.setPc (s.pc + disp) else s

/-- JSR and BSR once the target is known (R264, R266): push PC bits 15:0, then go there. -/
def State.call (s : State) (target : Long) : State := (s.push16 s.pc16).setPc target

/-- BRA d:8 (R262). -/
def execBra_d8 (disp : Byte) (s : State) : Host.Outcome State Fault Refusal :=
  .next (s.branch .ra (dispOf disp))

/-- BRN d:8 (R262). -/
def execBrn_d8 (disp : Byte) (s : State) : Host.Outcome State Fault Refusal :=
  .next (s.branch .rn (dispOf disp))

/-- BHI d:8 (R262). -/
def execBhi_d8 (disp : Byte) (s : State) : Host.Outcome State Fault Refusal :=
  .next (s.branch .hi (dispOf disp))

/-- BLS d:8 (R262). -/
def execBls_d8 (disp : Byte) (s : State) : Host.Outcome State Fault Refusal :=
  .next (s.branch .ls (dispOf disp))

/-- BCC d:8 (R262). -/
def execBcc_d8 (disp : Byte) (s : State) : Host.Outcome State Fault Refusal :=
  .next (s.branch .cc (dispOf disp))

/-- BCS d:8 (R262). -/
def execBcs_d8 (disp : Byte) (s : State) : Host.Outcome State Fault Refusal :=
  .next (s.branch .cs (dispOf disp))

/-- BNE d:8 (R262). -/
def execBne_d8 (disp : Byte) (s : State) : Host.Outcome State Fault Refusal :=
  .next (s.branch .ne (dispOf disp))

/-- BEQ d:8 (R262). -/
def execBeq_d8 (disp : Byte) (s : State) : Host.Outcome State Fault Refusal :=
  .next (s.branch .eq (dispOf disp))

/-- BVC d:8 (R262). -/
def execBvc_d8 (disp : Byte) (s : State) : Host.Outcome State Fault Refusal :=
  .next (s.branch .vc (dispOf disp))

/-- BVS d:8 (R262). -/
def execBvs_d8 (disp : Byte) (s : State) : Host.Outcome State Fault Refusal :=
  .next (s.branch .vs (dispOf disp))

/-- BPL d:8 (R262). -/
def execBpl_d8 (disp : Byte) (s : State) : Host.Outcome State Fault Refusal :=
  .next (s.branch .pl (dispOf disp))

/-- BMI d:8 (R262). -/
def execBmi_d8 (disp : Byte) (s : State) : Host.Outcome State Fault Refusal :=
  .next (s.branch .mi (dispOf disp))

/-- BGE d:8 (R262). -/
def execBge_d8 (disp : Byte) (s : State) : Host.Outcome State Fault Refusal :=
  .next (s.branch .ge (dispOf disp))

/-- BLT d:8 (R262). -/
def execBlt_d8 (disp : Byte) (s : State) : Host.Outcome State Fault Refusal :=
  .next (s.branch .lt (dispOf disp))

/-- BGT d:8 (R262). -/
def execBgt_d8 (disp : Byte) (s : State) : Host.Outcome State Fault Refusal :=
  .next (s.branch .gt (dispOf disp))

/-- BLE d:8 (R262). -/
def execBle_d8 (disp : Byte) (s : State) : Host.Outcome State Fault Refusal :=
  .next (s.branch .le (dispOf disp))

/-- BRA d:16 (R262). -/
def execBra_d16 (disp : Word) (s : State) : Host.Outcome State Fault Refusal :=
  .next (s.branch .ra (dispOf disp))

/-- BRN d:16 (R262). -/
def execBrn_d16 (disp : Word) (s : State) : Host.Outcome State Fault Refusal :=
  .next (s.branch .rn (dispOf disp))

/-- BHI d:16 (R262). -/
def execBhi_d16 (disp : Word) (s : State) : Host.Outcome State Fault Refusal :=
  .next (s.branch .hi (dispOf disp))

/-- BLS d:16 (R262). -/
def execBls_d16 (disp : Word) (s : State) : Host.Outcome State Fault Refusal :=
  .next (s.branch .ls (dispOf disp))

/-- BCC d:16 (R262). -/
def execBcc_d16 (disp : Word) (s : State) : Host.Outcome State Fault Refusal :=
  .next (s.branch .cc (dispOf disp))

/-- BCS d:16 (R262). -/
def execBcs_d16 (disp : Word) (s : State) : Host.Outcome State Fault Refusal :=
  .next (s.branch .cs (dispOf disp))

/-- BNE d:16 (R262). -/
def execBne_d16 (disp : Word) (s : State) : Host.Outcome State Fault Refusal :=
  .next (s.branch .ne (dispOf disp))

/-- BEQ d:16 (R262). -/
def execBeq_d16 (disp : Word) (s : State) : Host.Outcome State Fault Refusal :=
  .next (s.branch .eq (dispOf disp))

/-- BVC d:16 (R262). -/
def execBvc_d16 (disp : Word) (s : State) : Host.Outcome State Fault Refusal :=
  .next (s.branch .vc (dispOf disp))

/-- BVS d:16 (R262). -/
def execBvs_d16 (disp : Word) (s : State) : Host.Outcome State Fault Refusal :=
  .next (s.branch .vs (dispOf disp))

/-- BPL d:16 (R262). -/
def execBpl_d16 (disp : Word) (s : State) : Host.Outcome State Fault Refusal :=
  .next (s.branch .pl (dispOf disp))

/-- BMI d:16 (R262). -/
def execBmi_d16 (disp : Word) (s : State) : Host.Outcome State Fault Refusal :=
  .next (s.branch .mi (dispOf disp))

/-- BGE d:16 (R262). -/
def execBge_d16 (disp : Word) (s : State) : Host.Outcome State Fault Refusal :=
  .next (s.branch .ge (dispOf disp))

/-- BLT d:16 (R262). -/
def execBlt_d16 (disp : Word) (s : State) : Host.Outcome State Fault Refusal :=
  .next (s.branch .lt (dispOf disp))

/-- BGT d:16 (R262). -/
def execBgt_d16 (disp : Word) (s : State) : Host.Outcome State Fault Refusal :=
  .next (s.branch .gt (dispOf disp))

/-- BLE d:16 (R262). -/
def execBle_d16 (disp : Word) (s : State) : Host.Outcome State Fault Refusal :=
  .next (s.branch .le (dispOf disp))

/-- JMP @ERn (R263). -/
def execJmp_ind (ern : Reg3) (s : State) : Host.Outcome State Fault Refusal :=
  .next (s.setPc (s.reg ern))

/-- JMP @aa:24 (R263). -/
def execJmp_aa24 (aa : BitVec 24) (s : State) : Host.Outcome State Fault Refusal :=
  .next (s.setPc (aa.setWidth 32))

/-- JMP @@aa:8 (R263). -/
def execJmp_memInd (aa : Byte) (s : State) : Host.Outcome State Fault Refusal :=
  .next ((s.read16 (eaVector aa)).2.setPc ((s.read16 (eaVector aa)).1.setWidth 32))

/-- JSR @ERn (R264). -/
def execJsr_ind (ern : Reg3) (s : State) : Host.Outcome State Fault Refusal :=
  .next (s.call (s.reg ern))

/-- JSR @aa:24 (R264). -/
def execJsr_aa24 (aa : BitVec 24) (s : State) : Host.Outcome State Fault Refusal :=
  .next (s.call (aa.setWidth 32))

/-- JSR @@aa:8 (R264). -/
def execJsr_memInd (aa : Byte) (s : State) : Host.Outcome State Fault Refusal :=
  .next ((s.read16 (eaVector aa)).2.call ((s.read16 (eaVector aa)).1.setWidth 32))

/-- BSR d:8 (R266). -/
def execBsr_d8 (disp : Byte) (s : State) : Host.Outcome State Fault Refusal :=
  .next (s.call (s.pc + dispOf disp))

/-- BSR d:16 (R266). -/
def execBsr_d16 (disp : Word) (s : State) : Host.Outcome State Fault Refusal :=
  .next (s.call (s.pc + dispOf disp))

/-- RTS (R267). -/
def execRts (s : State) : Host.Outcome State Fault Refusal :=
  .next (s.pop16.2.setPc (s.pop16.1.setWidth 32))

/-- RTE (R268). -/
def execRte (s : State) : Host.Outcome State Fault Refusal :=
  .next s.returnFromException

end Sys2Proof.Machine
end

