-- ==== Sys2Proof/Machine/DataTransfer.lean ====
section
/-! DEFINITION. The meanings of the data transfer instructions (40_data_transfer.md), one definition per row of the opcode
table.
No data transfer instruction raises an exception (R140); all set N and Z from the value moved and clear V
(R147). PUSH and POP are spellings of MOV with `@-ER7` and `@ER7+` (R164). -/

namespace Sys2Proof.Machine

/-- MOV.B Rs,Rd (R148). -/
def execMovB_rs_rd (rs rd : Reg4) (s : State) : Host.Outcome State Fault Refusal :=
  .next (s.moveB rd (s.r8 rs))

/-- MOV.B #xx:8,Rd (R149). -/
def execMovB_imm_rd (imm : Byte) (rd : Reg4) (s : State) : Host.Outcome State Fault Refusal :=
  .next (s.moveB rd imm)

/-- MOV.B @ERs,Rd (R150). -/
def execMovB_ind_rd (ers : Reg3) (rd : Reg4) (s : State) : Host.Outcome State Fault Refusal :=
  .next (s.loadB (s.eaInd ers) rd)

/-- MOV.B @(d:16,ERs),Rd (R150). -/
def execMovB_d16_rd (disp : Word) (ers : Reg3) (rd : Reg4) (s : State) : Host.Outcome State Fault Refusal :=
  .next (s.loadB (s.eaD16 disp ers) rd)

/-- MOV.B @(d:24,ERs),Rd (R150). -/
def execMovB_d24_rd (disp : Long) (ers : Reg3) (rd : Reg4) (s : State) : Host.Outcome State Fault Refusal :=
  .next (s.loadB (s.eaD24 disp ers) rd)

/-- MOV.B @ERs+,Rd (R150). -/
def execMovB_postInc_rd (ers : Reg3) (rd : Reg4) (s : State) : Host.Outcome State Fault Refusal :=
  .next (s.loadPostB ers rd)

/-- MOV.B @aa:8,Rd (R150). -/
def execMovB_aa8_rd (aa : Byte) (rd : Reg4) (s : State) : Host.Outcome State Fault Refusal :=
  .next (s.loadB (eaAa8 aa) rd)

/-- MOV.B @aa:16,Rd (R150). -/
def execMovB_aa16_rd (aa : Word) (rd : Reg4) (s : State) : Host.Outcome State Fault Refusal :=
  .next (s.loadB (eaAa16 aa) rd)

/-- MOV.B @aa:24,Rd (R150). -/
def execMovB_aa24_rd (aa : Long) (rd : Reg4) (s : State) : Host.Outcome State Fault Refusal :=
  .next (s.loadB (eaAa24 aa) rd)

/-- MOV.B Rs,@ERd (R151). -/
def execMovB_rs_ind (rs : Reg4) (erd : Reg3) (s : State) : Host.Outcome State Fault Refusal :=
  .next (s.storeB (s.eaInd erd) (s.r8 rs))

/-- MOV.B Rs,@(d:16,ERd) (R151). -/
def execMovB_rs_d16 (rs : Reg4) (disp : Word) (erd : Reg3) (s : State) : Host.Outcome State Fault Refusal :=
  .next (s.storeB (s.eaD16 disp erd) (s.r8 rs))

/-- MOV.B Rs,@(d:24,ERd) (R151). -/
def execMovB_rs_d24 (rs : Reg4) (disp : Long) (erd : Reg3) (s : State) : Host.Outcome State Fault Refusal :=
  .next (s.storeB (s.eaD24 disp erd) (s.r8 rs))

/-- MOV.B Rs,@-ERd (R151). -/
def execMovB_rs_preDec (rs : Reg4) (erd : Reg3) (s : State) : Host.Outcome State Fault Refusal :=
  .next (s.storePreB rs erd)

/-- MOV.B Rs,@aa:8 (R151). -/
def execMovB_rs_aa8 (rs : Reg4) (aa : Byte) (s : State) : Host.Outcome State Fault Refusal :=
  .next (s.storeB (eaAa8 aa) (s.r8 rs))

/-- MOV.B Rs,@aa:16 (R151). -/
def execMovB_rs_aa16 (rs : Reg4) (aa : Word) (s : State) : Host.Outcome State Fault Refusal :=
  .next (s.storeB (eaAa16 aa) (s.r8 rs))

/-- MOV.B Rs,@aa:24 (R151). -/
def execMovB_rs_aa24 (rs : Reg4) (aa : Long) (s : State) : Host.Outcome State Fault Refusal :=
  .next (s.storeB (eaAa24 aa) (s.r8 rs))

/-- MOV.W Rs,Rd (R152). -/
def execMovW_rs_rd (rs rd : Reg4) (s : State) : Host.Outcome State Fault Refusal :=
  .next (s.moveW rd (s.r16 rs))

/-- MOV.W #xx:16,Rd (R153). -/
def execMovW_imm_rd (imm : Word) (rd : Reg4) (s : State) : Host.Outcome State Fault Refusal :=
  .next (s.moveW rd imm)

/-- MOV.W @ERs,Rd (R154). -/
def execMovW_ind_rd (ers : Reg3) (rd : Reg4) (s : State) : Host.Outcome State Fault Refusal :=
  .next (s.loadW (s.eaInd ers) rd)

/-- MOV.W @(d:16,ERs),Rd (R154). -/
def execMovW_d16_rd (disp : Word) (ers : Reg3) (rd : Reg4) (s : State) : Host.Outcome State Fault Refusal :=
  .next (s.loadW (s.eaD16 disp ers) rd)

/-- MOV.W @(d:24,ERs),Rd (R154). -/
def execMovW_d24_rd (disp : Long) (ers : Reg3) (rd : Reg4) (s : State) : Host.Outcome State Fault Refusal :=
  .next (s.loadW (s.eaD24 disp ers) rd)

/-- MOV.W @ERs+,Rd (R154). -/
def execMovW_postInc_rd (ers : Reg3) (rd : Reg4) (s : State) : Host.Outcome State Fault Refusal :=
  .next (s.loadPostW ers rd)

/-- MOV.W @aa:16,Rd (R154). -/
def execMovW_aa16_rd (aa : Word) (rd : Reg4) (s : State) : Host.Outcome State Fault Refusal :=
  .next (s.loadW (eaAa16 aa) rd)

/-- MOV.W @aa:24,Rd (R154). -/
def execMovW_aa24_rd (aa : Long) (rd : Reg4) (s : State) : Host.Outcome State Fault Refusal :=
  .next (s.loadW (eaAa24 aa) rd)

/-- MOV.W Rs,@ERd (R155). -/
def execMovW_rs_ind (rs : Reg4) (erd : Reg3) (s : State) : Host.Outcome State Fault Refusal :=
  .next (s.storeW (s.eaInd erd) (s.r16 rs))

/-- MOV.W Rs,@(d:16,ERd) (R155). -/
def execMovW_rs_d16 (rs : Reg4) (disp : Word) (erd : Reg3) (s : State) : Host.Outcome State Fault Refusal :=
  .next (s.storeW (s.eaD16 disp erd) (s.r16 rs))

/-- MOV.W Rs,@(d:24,ERd) (R155). -/
def execMovW_rs_d24 (rs : Reg4) (disp : Long) (erd : Reg3) (s : State) : Host.Outcome State Fault Refusal :=
  .next (s.storeW (s.eaD24 disp erd) (s.r16 rs))

/-- MOV.W Rs,@-ERd (R155). -/
def execMovW_rs_preDec (rs : Reg4) (erd : Reg3) (s : State) : Host.Outcome State Fault Refusal :=
  .next (s.storePreW rs erd)

/-- MOV.W Rs,@aa:16 (R155). -/
def execMovW_rs_aa16 (rs : Reg4) (aa : Word) (s : State) : Host.Outcome State Fault Refusal :=
  .next (s.storeW (eaAa16 aa) (s.r16 rs))

/-- MOV.W Rs,@aa:24 (R155). -/
def execMovW_rs_aa24 (rs : Reg4) (aa : Long) (s : State) : Host.Outcome State Fault Refusal :=
  .next (s.storeW (eaAa24 aa) (s.r16 rs))

/-- MOV.L ERs,ERd (R156). -/
def execMovL_ers_erd (ers erd : Reg3) (s : State) : Host.Outcome State Fault Refusal :=
  .next (s.moveL erd (s.reg ers))

/-- MOV.L #xx:32,ERd (R157). -/
def execMovL_imm_erd (imm : Long) (erd : Reg3) (s : State) : Host.Outcome State Fault Refusal :=
  .next (s.moveL erd imm)

/-- MOV.L @ERs,ERd (R158). -/
def execMovL_ind_erd (ers erd : Reg3) (s : State) : Host.Outcome State Fault Refusal :=
  .next (s.loadL (s.eaInd ers) erd)

/-- MOV.L @(d:16,ERs),ERd (R158). -/
def execMovL_d16_erd (disp : Word) (ers erd : Reg3) (s : State) : Host.Outcome State Fault Refusal :=
  .next (s.loadL (s.eaD16 disp ers) erd)

/-- MOV.L @(d:24,ERs),ERd (R158). -/
def execMovL_d24_erd (disp : Long) (ers erd : Reg3) (s : State) : Host.Outcome State Fault Refusal :=
  .next (s.loadL (s.eaD24 disp ers) erd)

/-- MOV.L @ERs+,ERd (R158). -/
def execMovL_postInc_erd (ers erd : Reg3) (s : State) : Host.Outcome State Fault Refusal :=
  .next (s.loadPostL ers erd)

/-- MOV.L @aa:16,ERd (R158). -/
def execMovL_aa16_erd (aa : Word) (erd : Reg3) (s : State) : Host.Outcome State Fault Refusal :=
  .next (s.loadL (eaAa16 aa) erd)

/-- MOV.L @aa:24,ERd (R158). -/
def execMovL_aa24_erd (aa : Long) (erd : Reg3) (s : State) : Host.Outcome State Fault Refusal :=
  .next (s.loadL (eaAa24 aa) erd)

/-- MOV.L ERs,@ERd (R159). -/
def execMovL_ers_ind (ers erd : Reg3) (s : State) : Host.Outcome State Fault Refusal :=
  .next (s.storeL (s.eaInd erd) (s.reg ers))

/-- MOV.L ERs,@(d:16,ERd) (R159). -/
def execMovL_ers_d16 (ers : Reg3) (disp : Word) (erd : Reg3) (s : State) :
    Host.Outcome State Fault Refusal :=
  .next (s.storeL (s.eaD16 disp erd) (s.reg ers))

/-- MOV.L ERs,@(d:24,ERd) (R159). -/
def execMovL_ers_d24 (ers : Reg3) (disp : Long) (erd : Reg3) (s : State) :
    Host.Outcome State Fault Refusal :=
  .next (s.storeL (s.eaD24 disp erd) (s.reg ers))

/-- MOV.L ERs,@-ERd (R159). -/
def execMovL_ers_preDec (ers erd : Reg3) (s : State) : Host.Outcome State Fault Refusal :=
  .next (s.storePreL ers erd)

/-- MOV.L ERs,@aa:16 (R159). -/
def execMovL_ers_aa16 (ers : Reg3) (aa : Word) (s : State) : Host.Outcome State Fault Refusal :=
  .next (s.storeL (eaAa16 aa) (s.reg ers))

/-- MOV.L ERs,@aa:24 (R159). -/
def execMovL_ers_aa24 (ers : Reg3) (aa : Long) (s : State) : Host.Outcome State Fault Refusal :=
  .next (s.storeL (eaAa24 aa) (s.reg ers))

/-- MOVFPE @aa:16,Rd (R160). -/
def execMovfpe_aa16_rd (aa : Word) (rd : Reg4) (s : State) : Host.Outcome State Fault Refusal :=
  .next (s.loadB (eaAa16 aa) rd)

/-- MOVTPE Rs,@aa:16 (R161). -/
def execMovtpe_rs_aa16 (rs : Reg4) (aa : Word) (s : State) : Host.Outcome State Fault Refusal :=
  .next (s.storeB (eaAa16 aa) (s.r8 rs))

end Sys2Proof.Machine
end

