-- ==== Sys2Proof/Machine/LogicShift.lean ====
section
/-! DEFINITION. The meanings of the logical operations, shifts and rotates (42_logic_shift.md), one definition per row of the opcode
table.
Every logical operation sets N and Z from the result and clears V (R210, R211); every shift and rotate
moves one bit (R229) and leaves H unchanged. -/

namespace Sys2Proof.Machine

/-- AND.B #xx:8,Rd (R211). -/
def execAndB_imm_rd (imm : Byte) (rd : Reg4) (s : State) : Host.Outcome State Fault Refusal :=
  .next (s.moveB rd (s.r8 rd &&& imm))

/-- AND.B Rs,Rd (R211). -/
def execAndB_rs_rd (rs rd : Reg4) (s : State) : Host.Outcome State Fault Refusal :=
  .next (s.moveB rd (s.r8 rd &&& s.r8 rs))

/-- AND.W #xx:16,Rd (R212). -/
def execAndW_imm_rd (imm : Word) (rd : Reg4) (s : State) : Host.Outcome State Fault Refusal :=
  .next (s.moveW rd (s.r16 rd &&& imm))

/-- AND.W Rs,Rd (R212). -/
def execAndW_rs_rd (rs rd : Reg4) (s : State) : Host.Outcome State Fault Refusal :=
  .next (s.moveW rd (s.r16 rd &&& s.r16 rs))

/-- AND.L #xx:32,ERd (R213). -/
def execAndL_imm_erd (imm : Long) (erd : Reg3) (s : State) : Host.Outcome State Fault Refusal :=
  .next (s.moveL erd (s.reg erd &&& imm))

/-- AND.L ERs,ERd (R213). -/
def execAndL_ers_erd (ers erd : Reg3) (s : State) : Host.Outcome State Fault Refusal :=
  .next (s.moveL erd (s.reg erd &&& s.reg ers))

/-- OR.B #xx:8,Rd (R214). -/
def execOrB_imm_rd (imm : Byte) (rd : Reg4) (s : State) : Host.Outcome State Fault Refusal :=
  .next (s.moveB rd (s.r8 rd ||| imm))

/-- OR.B Rs,Rd (R214). -/
def execOrB_rs_rd (rs rd : Reg4) (s : State) : Host.Outcome State Fault Refusal :=
  .next (s.moveB rd (s.r8 rd ||| s.r8 rs))

/-- OR.W #xx:16,Rd (R215). -/
def execOrW_imm_rd (imm : Word) (rd : Reg4) (s : State) : Host.Outcome State Fault Refusal :=
  .next (s.moveW rd (s.r16 rd ||| imm))

/-- OR.W Rs,Rd (R215). -/
def execOrW_rs_rd (rs rd : Reg4) (s : State) : Host.Outcome State Fault Refusal :=
  .next (s.moveW rd (s.r16 rd ||| s.r16 rs))

/-- OR.L #xx:32,ERd (R216). -/
def execOrL_imm_erd (imm : Long) (erd : Reg3) (s : State) : Host.Outcome State Fault Refusal :=
  .next (s.moveL erd (s.reg erd ||| imm))

/-- OR.L ERs,ERd (R216). -/
def execOrL_ers_erd (ers erd : Reg3) (s : State) : Host.Outcome State Fault Refusal :=
  .next (s.moveL erd (s.reg erd ||| s.reg ers))

/-- XOR.B #xx:8,Rd (R217). -/
def execXorB_imm_rd (imm : Byte) (rd : Reg4) (s : State) : Host.Outcome State Fault Refusal :=
  .next (s.moveB rd (s.r8 rd ^^^ imm))

/-- XOR.B Rs,Rd (R217). -/
def execXorB_rs_rd (rs rd : Reg4) (s : State) : Host.Outcome State Fault Refusal :=
  .next (s.moveB rd (s.r8 rd ^^^ s.r8 rs))

/-- XOR.W #xx:16,Rd (R218). -/
def execXorW_imm_rd (imm : Word) (rd : Reg4) (s : State) : Host.Outcome State Fault Refusal :=
  .next (s.moveW rd (s.r16 rd ^^^ imm))

/-- XOR.W Rs,Rd (R218). -/
def execXorW_rs_rd (rs rd : Reg4) (s : State) : Host.Outcome State Fault Refusal :=
  .next (s.moveW rd (s.r16 rd ^^^ s.r16 rs))

/-- XOR.L #xx:32,ERd (R219). -/
def execXorL_imm_erd (imm : Long) (erd : Reg3) (s : State) : Host.Outcome State Fault Refusal :=
  .next (s.moveL erd (s.reg erd ^^^ imm))

/-- XOR.L ERs,ERd (R219). -/
def execXorL_ers_erd (ers erd : Reg3) (s : State) : Host.Outcome State Fault Refusal :=
  .next (s.moveL erd (s.reg erd ^^^ s.reg ers))

/-- NOT.B Rd (R220). -/
def execNotB (rd : Reg4) (s : State) : Host.Outcome State Fault Refusal :=
  .next (s.moveB rd (~~~(s.r8 rd)))

/-- NOT.W Rd (R220). -/
def execNotW (rd : Reg4) (s : State) : Host.Outcome State Fault Refusal :=
  .next (s.moveW rd (~~~(s.r16 rd)))

/-- NOT.L ERd (R220). -/
def execNotL (erd : Reg3) (s : State) : Host.Outcome State Fault Refusal :=
  .next (s.moveL erd (~~~(s.reg erd)))

/-- SHAL.B Rd (R221). -/
def execShalB (rd : Reg4) (s : State) : Host.Outcome State Fault Refusal :=
  .next (s.shiftB rd (shal (s.r8 rd)))

/-- SHAL.W Rd (R221). -/
def execShalW (rd : Reg4) (s : State) : Host.Outcome State Fault Refusal :=
  .next (s.shiftW rd (shal (s.r16 rd)))

/-- SHAL.L ERd (R221). -/
def execShalL (erd : Reg3) (s : State) : Host.Outcome State Fault Refusal :=
  .next (s.shiftL erd (shal (s.reg erd)))

/-- SHAR.B Rd (R222). -/
def execSharB (rd : Reg4) (s : State) : Host.Outcome State Fault Refusal :=
  .next (s.shiftB rd (shar (s.r8 rd)))

/-- SHAR.W Rd (R222). -/
def execSharW (rd : Reg4) (s : State) : Host.Outcome State Fault Refusal :=
  .next (s.shiftW rd (shar (s.r16 rd)))

/-- SHAR.L ERd (R222). -/
def execSharL (erd : Reg3) (s : State) : Host.Outcome State Fault Refusal :=
  .next (s.shiftL erd (shar (s.reg erd)))

/-- SHLL.B Rd (R223). -/
def execShllB (rd : Reg4) (s : State) : Host.Outcome State Fault Refusal :=
  .next (s.shiftB rd (shll (s.r8 rd)))

/-- SHLL.W Rd (R223). -/
def execShllW (rd : Reg4) (s : State) : Host.Outcome State Fault Refusal :=
  .next (s.shiftW rd (shll (s.r16 rd)))

/-- SHLL.L ERd (R223). -/
def execShllL (erd : Reg3) (s : State) : Host.Outcome State Fault Refusal :=
  .next (s.shiftL erd (shll (s.reg erd)))

/-- SHLR.B Rd (R224). -/
def execShlrB (rd : Reg4) (s : State) : Host.Outcome State Fault Refusal :=
  .next (s.shiftB rd (shlr (s.r8 rd)))

/-- SHLR.W Rd (R224). -/
def execShlrW (rd : Reg4) (s : State) : Host.Outcome State Fault Refusal :=
  .next (s.shiftW rd (shlr (s.r16 rd)))

/-- SHLR.L ERd (R224). -/
def execShlrL (erd : Reg3) (s : State) : Host.Outcome State Fault Refusal :=
  .next (s.shiftL erd (shlr (s.reg erd)))

/-- ROTL.B Rd (R225). -/
def execRotlB (rd : Reg4) (s : State) : Host.Outcome State Fault Refusal :=
  .next (s.shiftB rd (rotl (s.r8 rd)))

/-- ROTL.W Rd (R225). -/
def execRotlW (rd : Reg4) (s : State) : Host.Outcome State Fault Refusal :=
  .next (s.shiftW rd (rotl (s.r16 rd)))

/-- ROTL.L ERd (R225). -/
def execRotlL (erd : Reg3) (s : State) : Host.Outcome State Fault Refusal :=
  .next (s.shiftL erd (rotl (s.reg erd)))

/-- ROTR.B Rd (R226). -/
def execRotrB (rd : Reg4) (s : State) : Host.Outcome State Fault Refusal :=
  .next (s.shiftB rd (rotr (s.r8 rd)))

/-- ROTR.W Rd (R226). -/
def execRotrW (rd : Reg4) (s : State) : Host.Outcome State Fault Refusal :=
  .next (s.shiftW rd (rotr (s.r16 rd)))

/-- ROTR.L ERd (R226). -/
def execRotrL (erd : Reg3) (s : State) : Host.Outcome State Fault Refusal :=
  .next (s.shiftL erd (rotr (s.reg erd)))

/-- ROTXL.B Rd (R227). -/
def execRotxlB (rd : Reg4) (s : State) : Host.Outcome State Fault Refusal :=
  .next (s.shiftB rd (rotxl (s.flag .c) (s.r8 rd)))

/-- ROTXL.W Rd (R227). -/
def execRotxlW (rd : Reg4) (s : State) : Host.Outcome State Fault Refusal :=
  .next (s.shiftW rd (rotxl (s.flag .c) (s.r16 rd)))

/-- ROTXL.L ERd (R227). -/
def execRotxlL (erd : Reg3) (s : State) : Host.Outcome State Fault Refusal :=
  .next (s.shiftL erd (rotxl (s.flag .c) (s.reg erd)))

/-- ROTXR.B Rd (R228). -/
def execRotxrB (rd : Reg4) (s : State) : Host.Outcome State Fault Refusal :=
  .next (s.shiftB rd (rotxr (s.flag .c) (s.r8 rd)))

/-- ROTXR.W Rd (R228). -/
def execRotxrW (rd : Reg4) (s : State) : Host.Outcome State Fault Refusal :=
  .next (s.shiftW rd (rotxr (s.flag .c) (s.r16 rd)))

/-- ROTXR.L ERd (R228). -/
def execRotxrL (erd : Reg3) (s : State) : Host.Outcome State Fault Refusal :=
  .next (s.shiftL erd (rotxr (s.flag .c) (s.reg erd)))

end Sys2Proof.Machine
end

