-- ==== Sys2Proof/Machine/System.lean ====
section
/-! DEFINITION. The meanings of the system instructions and the block transfers (45_system.md), one definition per row of the opcode
table.
SLEEP and TRAPA are no-ops of this core (R289, R290), and there is one privilege level (R280, R311). -/

namespace Sys2Proof.Machine

/-- LDC from memory (R285): a word access, of which the byte at the even address is loaded. -/
def State.loadCcr (s : State) (ea : Word) : State :=
  (s.read16 ea).2.setCcr ((s.read16 ea).1.extractLsb' 8 8)

/-- LDC with post-increment (R285). -/
def State.loadPostCcr (s : State) (ers : Reg3) : State :=
  ((s.read16 (s.eaInd ers)).2.bump ers 2).setCcr ((s.read16 (s.eaInd ers)).1.extractLsb' 8 8)

/-- STC to memory (R287): CCR in both bytes of the word. -/
def State.storeCcr (s : State) (ea : Word) : State := s.write16 ea (s.ccr ++ s.ccr)

/-- STC with pre-decrement (R287). -/
def State.storePreCcr (s : State) (erd : Reg3) : State :=
  let t := s.bump erd (-2)
  t.storeCcr (t.eaInd erd)

/-- One turn of EEPMOV's loop (R291): read a byte at ER5, write it at ER6, advance both pointers. -/
def State.moveOneByte (s : State) : State :=
  let b := s.read8 (s.eaInd 5)
  ((b.2.write8 (s.eaInd 6) b.1).bump 5 1).bump 6 1

/-- That turn `count` times, in ascending address order (R291). -/
def State.moveBytes : Nat → State → State
  | 0, s => s
  | count + 1, s => State.moveBytes count s.moveOneByte

/-- EEPMOV.B (R292): the count is R4L (byte field 12), and ends 0. -/
def State.blockMoveB (s : State) : State := (State.moveBytes (s.r8 12).toNat s).setR8 12 0

/-- EEPMOV.W (R293): the count is R4 (word field 4), and ends 0. -/
def State.blockMoveW (s : State) : State := (State.moveBytes (s.r16 4).toNat s).setR16 4 0

/-- ANDC #xx:8,CCR (R281). -/
def execAndc (imm : Byte) (s : State) : Host.Outcome State Fault Refusal :=
  .next (s.setCcr (s.ccr &&& imm))

/-- ORC #xx:8,CCR (R282). -/
def execOrc (imm : Byte) (s : State) : Host.Outcome State Fault Refusal :=
  .next (s.setCcr (s.ccr ||| imm))

/-- XORC #xx:8,CCR (R283). -/
def execXorc (imm : Byte) (s : State) : Host.Outcome State Fault Refusal :=
  .next (s.setCcr (s.ccr ^^^ imm))

/-- LDC #xx:8,CCR (R284). -/
def execLdc_imm (imm : Byte) (s : State) : Host.Outcome State Fault Refusal :=
  .next (s.setCcr imm)

/-- LDC Rs,CCR (R284). -/
def execLdc_rs (rs : Reg4) (s : State) : Host.Outcome State Fault Refusal :=
  .next (s.setCcr (s.r8 rs))

/-- LDC @ERs,CCR (R285). -/
def execLdc_ind (ers : Reg3) (s : State) : Host.Outcome State Fault Refusal :=
  .next (s.loadCcr (s.eaInd ers))

/-- LDC @(d:16,ERs),CCR (R285). -/
def execLdc_d16 (disp : Word) (ers : Reg3) (s : State) : Host.Outcome State Fault Refusal :=
  .next (s.loadCcr (s.eaD16 disp ers))

/-- LDC @(d:24,ERs),CCR (R285). -/
def execLdc_d24 (disp : Long) (ers : Reg3) (s : State) : Host.Outcome State Fault Refusal :=
  .next (s.loadCcr (s.eaD24 disp ers))

/-- LDC @ERs+,CCR (R285). -/
def execLdc_postInc (ers : Reg3) (s : State) : Host.Outcome State Fault Refusal :=
  .next (s.loadPostCcr ers)

/-- LDC @aa:16,CCR (R285). -/
def execLdc_aa16 (aa : Word) (s : State) : Host.Outcome State Fault Refusal :=
  .next (s.loadCcr (eaAa16 aa))

/-- LDC @aa:24,CCR (R285). -/
def execLdc_aa24 (aa : Long) (s : State) : Host.Outcome State Fault Refusal :=
  .next (s.loadCcr (eaAa24 aa))

/-- STC CCR,Rd (R286). -/
def execStc_rd (rd : Reg4) (s : State) : Host.Outcome State Fault Refusal :=
  .next (s.setR8 rd s.ccr)

/-- STC CCR,@ERd (R287). -/
def execStc_ind (erd : Reg3) (s : State) : Host.Outcome State Fault Refusal :=
  .next (s.storeCcr (s.eaInd erd))

/-- STC CCR,@(d:16,ERd) (R287). -/
def execStc_d16 (disp : Word) (erd : Reg3) (s : State) : Host.Outcome State Fault Refusal :=
  .next (s.storeCcr (s.eaD16 disp erd))

/-- STC CCR,@(d:24,ERd) (R287). -/
def execStc_d24 (disp : Long) (erd : Reg3) (s : State) : Host.Outcome State Fault Refusal :=
  .next (s.storeCcr (s.eaD24 disp erd))

/-- STC CCR,@-ERd (R287). -/
def execStc_preDec (erd : Reg3) (s : State) : Host.Outcome State Fault Refusal :=
  .next (s.storePreCcr erd)

/-- STC CCR,@aa:16 (R287). -/
def execStc_aa16 (aa : Word) (s : State) : Host.Outcome State Fault Refusal :=
  .next (s.storeCcr (eaAa16 aa))

/-- STC CCR,@aa:24 (R287). -/
def execStc_aa24 (aa : Long) (s : State) : Host.Outcome State Fault Refusal :=
  .next (s.storeCcr (eaAa24 aa))

/-- NOP (R288). -/
def execNop (s : State) : Host.Outcome State Fault Refusal :=
  .next s

/-- SLEEP (R289). -/
def execSleep (s : State) : Host.Outcome State Fault Refusal :=
  .next s

/-- TRAPA #x:2 (R290). -/
def execTrapa (_vec : BitVec 2) (s : State) : Host.Outcome State Fault Refusal :=
  .next s

/-- EEPMOV.B (R292). -/
def execEepmovB (s : State) : Host.Outcome State Fault Refusal :=
  .next s.blockMoveB

/-- EEPMOV.W (R293). -/
def execEepmovW (s : State) : Host.Outcome State Fault Refusal :=
  .next s.blockMoveW

end Sys2Proof.Machine
end

