-- ==== Sys2Proof/Machine/Dispatch.lean ====
section
/-! DEFINITION. What each instruction does: one arm per constructor, each one call of its meaning. -/

namespace Sys2Proof.Machine

def exec (i : Instr) (s : State) : Host.Outcome State Fault Refusal :=
  match i with
  -- Data transfer (40_data_transfer.md)
  | .movB_rs_rd rs rd => Sys2Proof.Machine.execMovB_rs_rd rs rd s
  | .movB_imm_rd imm rd => Sys2Proof.Machine.execMovB_imm_rd imm rd s
  | .movB_ind_rd ers rd => Sys2Proof.Machine.execMovB_ind_rd ers rd s
  | .movB_d16_rd disp ers rd => Sys2Proof.Machine.execMovB_d16_rd disp ers rd s
  | .movB_d24_rd disp ers rd => Sys2Proof.Machine.execMovB_d24_rd disp ers rd s
  | .movB_postInc_rd ers rd => Sys2Proof.Machine.execMovB_postInc_rd ers rd s
  | .movB_aa8_rd aa rd => Sys2Proof.Machine.execMovB_aa8_rd aa rd s
  | .movB_aa16_rd aa rd => Sys2Proof.Machine.execMovB_aa16_rd aa rd s
  | .movB_aa24_rd aa rd => Sys2Proof.Machine.execMovB_aa24_rd aa rd s
  | .movB_rs_ind rs erd => Sys2Proof.Machine.execMovB_rs_ind rs erd s
  | .movB_rs_d16 rs disp erd => Sys2Proof.Machine.execMovB_rs_d16 rs disp erd s
  | .movB_rs_d24 rs disp erd => Sys2Proof.Machine.execMovB_rs_d24 rs disp erd s
  | .movB_rs_preDec rs erd => Sys2Proof.Machine.execMovB_rs_preDec rs erd s
  | .movB_rs_aa8 rs aa => Sys2Proof.Machine.execMovB_rs_aa8 rs aa s
  | .movB_rs_aa16 rs aa => Sys2Proof.Machine.execMovB_rs_aa16 rs aa s
  | .movB_rs_aa24 rs aa => Sys2Proof.Machine.execMovB_rs_aa24 rs aa s
  | .movW_rs_rd rs rd => Sys2Proof.Machine.execMovW_rs_rd rs rd s
  | .movW_imm_rd imm rd => Sys2Proof.Machine.execMovW_imm_rd imm rd s
  | .movW_ind_rd ers rd => Sys2Proof.Machine.execMovW_ind_rd ers rd s
  | .movW_d16_rd disp ers rd => Sys2Proof.Machine.execMovW_d16_rd disp ers rd s
  | .movW_d24_rd disp ers rd => Sys2Proof.Machine.execMovW_d24_rd disp ers rd s
  | .movW_postInc_rd ers rd => Sys2Proof.Machine.execMovW_postInc_rd ers rd s
  | .movW_aa16_rd aa rd => Sys2Proof.Machine.execMovW_aa16_rd aa rd s
  | .movW_aa24_rd aa rd => Sys2Proof.Machine.execMovW_aa24_rd aa rd s
  | .movW_rs_ind rs erd => Sys2Proof.Machine.execMovW_rs_ind rs erd s
  | .movW_rs_d16 rs disp erd => Sys2Proof.Machine.execMovW_rs_d16 rs disp erd s
  | .movW_rs_d24 rs disp erd => Sys2Proof.Machine.execMovW_rs_d24 rs disp erd s
  | .movW_rs_preDec rs erd => Sys2Proof.Machine.execMovW_rs_preDec rs erd s
  | .movW_rs_aa16 rs aa => Sys2Proof.Machine.execMovW_rs_aa16 rs aa s
  | .movW_rs_aa24 rs aa => Sys2Proof.Machine.execMovW_rs_aa24 rs aa s
  | .movL_ers_erd ers erd => Sys2Proof.Machine.execMovL_ers_erd ers erd s
  | .movL_imm_erd imm erd => Sys2Proof.Machine.execMovL_imm_erd imm erd s
  | .movL_ind_erd ers erd => Sys2Proof.Machine.execMovL_ind_erd ers erd s
  | .movL_d16_erd disp ers erd => Sys2Proof.Machine.execMovL_d16_erd disp ers erd s
  | .movL_d24_erd disp ers erd => Sys2Proof.Machine.execMovL_d24_erd disp ers erd s
  | .movL_postInc_erd ers erd => Sys2Proof.Machine.execMovL_postInc_erd ers erd s
  | .movL_aa16_erd aa erd => Sys2Proof.Machine.execMovL_aa16_erd aa erd s
  | .movL_aa24_erd aa erd => Sys2Proof.Machine.execMovL_aa24_erd aa erd s
  | .movL_ers_ind ers erd => Sys2Proof.Machine.execMovL_ers_ind ers erd s
  | .movL_ers_d16 ers disp erd => Sys2Proof.Machine.execMovL_ers_d16 ers disp erd s
  | .movL_ers_d24 ers disp erd => Sys2Proof.Machine.execMovL_ers_d24 ers disp erd s
  | .movL_ers_preDec ers erd => Sys2Proof.Machine.execMovL_ers_preDec ers erd s
  | .movL_ers_aa16 ers aa => Sys2Proof.Machine.execMovL_ers_aa16 ers aa s
  | .movL_ers_aa24 ers aa => Sys2Proof.Machine.execMovL_ers_aa24 ers aa s
  | .movfpe_aa16_rd aa rd => Sys2Proof.Machine.execMovfpe_aa16_rd aa rd s
  | .movtpe_rs_aa16 rs aa => Sys2Proof.Machine.execMovtpe_rs_aa16 rs aa s
  -- Arithmetic (41_arithmetic.md)
  | .addB_imm_rd imm rd => Sys2Proof.Machine.execAddB_imm_rd imm rd s
  | .addB_rs_rd rs rd => Sys2Proof.Machine.execAddB_rs_rd rs rd s
  | .addW_imm_rd imm rd => Sys2Proof.Machine.execAddW_imm_rd imm rd s
  | .addW_rs_rd rs rd => Sys2Proof.Machine.execAddW_rs_rd rs rd s
  | .addL_imm_erd imm erd => Sys2Proof.Machine.execAddL_imm_erd imm erd s
  | .addL_ers_erd ers erd => Sys2Proof.Machine.execAddL_ers_erd ers erd s
  | .adds_1 erd => Sys2Proof.Machine.execAdds_1 erd s
  | .adds_2 erd => Sys2Proof.Machine.execAdds_2 erd s
  | .adds_4 erd => Sys2Proof.Machine.execAdds_4 erd s
  | .addx_imm_rd imm rd => Sys2Proof.Machine.execAddx_imm_rd imm rd s
  | .addx_rs_rd rs rd => Sys2Proof.Machine.execAddx_rs_rd rs rd s
  | .subB_rs_rd rs rd => Sys2Proof.Machine.execSubB_rs_rd rs rd s
  | .subW_imm_rd imm rd => Sys2Proof.Machine.execSubW_imm_rd imm rd s
  | .subW_rs_rd rs rd => Sys2Proof.Machine.execSubW_rs_rd rs rd s
  | .subL_imm_erd imm erd => Sys2Proof.Machine.execSubL_imm_erd imm erd s
  | .subL_ers_erd ers erd => Sys2Proof.Machine.execSubL_ers_erd ers erd s
  | .subs_1 erd => Sys2Proof.Machine.execSubs_1 erd s
  | .subs_2 erd => Sys2Proof.Machine.execSubs_2 erd s
  | .subs_4 erd => Sys2Proof.Machine.execSubs_4 erd s
  | .subx_imm_rd imm rd => Sys2Proof.Machine.execSubx_imm_rd imm rd s
  | .subx_rs_rd rs rd => Sys2Proof.Machine.execSubx_rs_rd rs rd s
  | .cmpB_imm_rd imm rd => Sys2Proof.Machine.execCmpB_imm_rd imm rd s
  | .cmpB_rs_rd rs rd => Sys2Proof.Machine.execCmpB_rs_rd rs rd s
  | .cmpW_imm_rd imm rd => Sys2Proof.Machine.execCmpW_imm_rd imm rd s
  | .cmpW_rs_rd rs rd => Sys2Proof.Machine.execCmpW_rs_rd rs rd s
  | .cmpL_imm_erd imm erd => Sys2Proof.Machine.execCmpL_imm_erd imm erd s
  | .cmpL_ers_erd ers erd => Sys2Proof.Machine.execCmpL_ers_erd ers erd s
  | .negB rd => Sys2Proof.Machine.execNegB rd s
  | .negW rd => Sys2Proof.Machine.execNegW rd s
  | .negL erd => Sys2Proof.Machine.execNegL erd s
  | .daa rd => Sys2Proof.Machine.execDaa rd s
  | .das rd => Sys2Proof.Machine.execDas rd s
  | .mulxuB_rs_rd rs rd => Sys2Proof.Machine.execMulxuB_rs_rd rs rd s
  | .mulxuW_rs_erd rs erd => Sys2Proof.Machine.execMulxuW_rs_erd rs erd s
  | .divxuB_rs_rd rs rd => Sys2Proof.Machine.execDivxuB_rs_rd rs rd s
  | .divxuW_rs_erd rs erd => Sys2Proof.Machine.execDivxuW_rs_erd rs erd s
  | .divxsB_rs_rd rs rd => Sys2Proof.Machine.execDivxsB_rs_rd rs rd s
  | .divxsW_rs_erd rs erd => Sys2Proof.Machine.execDivxsW_rs_erd rs erd s
  | .mulxsB_rs_rd rs rd => Sys2Proof.Machine.execMulxsB_rs_rd rs rd s
  | .mulxsW_rs_erd rs erd => Sys2Proof.Machine.execMulxsW_rs_erd rs erd s
  | .incB rd => Sys2Proof.Machine.execIncB rd s
  | .incW_1 rd => Sys2Proof.Machine.execIncW_1 rd s
  | .incW_2 rd => Sys2Proof.Machine.execIncW_2 rd s
  | .incL_1 erd => Sys2Proof.Machine.execIncL_1 erd s
  | .incL_2 erd => Sys2Proof.Machine.execIncL_2 erd s
  | .decB rd => Sys2Proof.Machine.execDecB rd s
  | .decW_1 rd => Sys2Proof.Machine.execDecW_1 rd s
  | .decW_2 rd => Sys2Proof.Machine.execDecW_2 rd s
  | .decL_1 erd => Sys2Proof.Machine.execDecL_1 erd s
  | .decL_2 erd => Sys2Proof.Machine.execDecL_2 erd s
  | .extuW rd => Sys2Proof.Machine.execExtuW rd s
  | .extuL erd => Sys2Proof.Machine.execExtuL erd s
  | .extsW rd => Sys2Proof.Machine.execExtsW rd s
  | .extsL erd => Sys2Proof.Machine.execExtsL erd s
  -- Logic, shifts and rotates (42_logic_shift.md)
  | .andB_imm_rd imm rd => Sys2Proof.Machine.execAndB_imm_rd imm rd s
  | .andB_rs_rd rs rd => Sys2Proof.Machine.execAndB_rs_rd rs rd s
  | .andW_imm_rd imm rd => Sys2Proof.Machine.execAndW_imm_rd imm rd s
  | .andW_rs_rd rs rd => Sys2Proof.Machine.execAndW_rs_rd rs rd s
  | .andL_imm_erd imm erd => Sys2Proof.Machine.execAndL_imm_erd imm erd s
  | .andL_ers_erd ers erd => Sys2Proof.Machine.execAndL_ers_erd ers erd s
  | .orB_imm_rd imm rd => Sys2Proof.Machine.execOrB_imm_rd imm rd s
  | .orB_rs_rd rs rd => Sys2Proof.Machine.execOrB_rs_rd rs rd s
  | .orW_imm_rd imm rd => Sys2Proof.Machine.execOrW_imm_rd imm rd s
  | .orW_rs_rd rs rd => Sys2Proof.Machine.execOrW_rs_rd rs rd s
  | .orL_imm_erd imm erd => Sys2Proof.Machine.execOrL_imm_erd imm erd s
  | .orL_ers_erd ers erd => Sys2Proof.Machine.execOrL_ers_erd ers erd s
  | .xorB_imm_rd imm rd => Sys2Proof.Machine.execXorB_imm_rd imm rd s
  | .xorB_rs_rd rs rd => Sys2Proof.Machine.execXorB_rs_rd rs rd s
  | .xorW_imm_rd imm rd => Sys2Proof.Machine.execXorW_imm_rd imm rd s
  | .xorW_rs_rd rs rd => Sys2Proof.Machine.execXorW_rs_rd rs rd s
  | .xorL_imm_erd imm erd => Sys2Proof.Machine.execXorL_imm_erd imm erd s
  | .xorL_ers_erd ers erd => Sys2Proof.Machine.execXorL_ers_erd ers erd s
  | .notB rd => Sys2Proof.Machine.execNotB rd s
  | .notW rd => Sys2Proof.Machine.execNotW rd s
  | .notL erd => Sys2Proof.Machine.execNotL erd s
  | .shalB rd => Sys2Proof.Machine.execShalB rd s
  | .shalW rd => Sys2Proof.Machine.execShalW rd s
  | .shalL erd => Sys2Proof.Machine.execShalL erd s
  | .sharB rd => Sys2Proof.Machine.execSharB rd s
  | .sharW rd => Sys2Proof.Machine.execSharW rd s
  | .sharL erd => Sys2Proof.Machine.execSharL erd s
  | .shllB rd => Sys2Proof.Machine.execShllB rd s
  | .shllW rd => Sys2Proof.Machine.execShllW rd s
  | .shllL erd => Sys2Proof.Machine.execShllL erd s
  | .shlrB rd => Sys2Proof.Machine.execShlrB rd s
  | .shlrW rd => Sys2Proof.Machine.execShlrW rd s
  | .shlrL erd => Sys2Proof.Machine.execShlrL erd s
  | .rotlB rd => Sys2Proof.Machine.execRotlB rd s
  | .rotlW rd => Sys2Proof.Machine.execRotlW rd s
  | .rotlL erd => Sys2Proof.Machine.execRotlL erd s
  | .rotrB rd => Sys2Proof.Machine.execRotrB rd s
  | .rotrW rd => Sys2Proof.Machine.execRotrW rd s
  | .rotrL erd => Sys2Proof.Machine.execRotrL erd s
  | .rotxlB rd => Sys2Proof.Machine.execRotxlB rd s
  | .rotxlW rd => Sys2Proof.Machine.execRotxlW rd s
  | .rotxlL erd => Sys2Proof.Machine.execRotxlL erd s
  | .rotxrB rd => Sys2Proof.Machine.execRotxrB rd s
  | .rotxrW rd => Sys2Proof.Machine.execRotxrW rd s
  | .rotxrL erd => Sys2Proof.Machine.execRotxrL erd s
  -- Bit manipulation (43_bit_manipulation.md)
  | .bset_imm_rd bit rd => Sys2Proof.Machine.execBset_imm_rd bit rd s
  | .bset_imm_ind bit erd => Sys2Proof.Machine.execBset_imm_ind bit erd s
  | .bset_imm_aa8 bit aa => Sys2Proof.Machine.execBset_imm_aa8 bit aa s
  | .bset_rn_rd rn rd => Sys2Proof.Machine.execBset_rn_rd rn rd s
  | .bset_rn_ind rn erd => Sys2Proof.Machine.execBset_rn_ind rn erd s
  | .bset_rn_aa8 rn aa => Sys2Proof.Machine.execBset_rn_aa8 rn aa s
  | .bclr_imm_rd bit rd => Sys2Proof.Machine.execBclr_imm_rd bit rd s
  | .bclr_imm_ind bit erd => Sys2Proof.Machine.execBclr_imm_ind bit erd s
  | .bclr_imm_aa8 bit aa => Sys2Proof.Machine.execBclr_imm_aa8 bit aa s
  | .bclr_rn_rd rn rd => Sys2Proof.Machine.execBclr_rn_rd rn rd s
  | .bclr_rn_ind rn erd => Sys2Proof.Machine.execBclr_rn_ind rn erd s
  | .bclr_rn_aa8 rn aa => Sys2Proof.Machine.execBclr_rn_aa8 rn aa s
  | .bnot_imm_rd bit rd => Sys2Proof.Machine.execBnot_imm_rd bit rd s
  | .bnot_imm_ind bit erd => Sys2Proof.Machine.execBnot_imm_ind bit erd s
  | .bnot_imm_aa8 bit aa => Sys2Proof.Machine.execBnot_imm_aa8 bit aa s
  | .bnot_rn_rd rn rd => Sys2Proof.Machine.execBnot_rn_rd rn rd s
  | .bnot_rn_ind rn erd => Sys2Proof.Machine.execBnot_rn_ind rn erd s
  | .bnot_rn_aa8 rn aa => Sys2Proof.Machine.execBnot_rn_aa8 rn aa s
  | .btst_imm_rd bit rd => Sys2Proof.Machine.execBtst_imm_rd bit rd s
  | .btst_imm_ind bit erd => Sys2Proof.Machine.execBtst_imm_ind bit erd s
  | .btst_imm_aa8 bit aa => Sys2Proof.Machine.execBtst_imm_aa8 bit aa s
  | .btst_rn_rd rn rd => Sys2Proof.Machine.execBtst_rn_rd rn rd s
  | .btst_rn_ind rn erd => Sys2Proof.Machine.execBtst_rn_ind rn erd s
  | .btst_rn_aa8 rn aa => Sys2Proof.Machine.execBtst_rn_aa8 rn aa s
  | .band_imm_rd bit rd => Sys2Proof.Machine.execBand_imm_rd bit rd s
  | .band_imm_ind bit erd => Sys2Proof.Machine.execBand_imm_ind bit erd s
  | .band_imm_aa8 bit aa => Sys2Proof.Machine.execBand_imm_aa8 bit aa s
  | .biand_imm_rd bit rd => Sys2Proof.Machine.execBiand_imm_rd bit rd s
  | .biand_imm_ind bit erd => Sys2Proof.Machine.execBiand_imm_ind bit erd s
  | .biand_imm_aa8 bit aa => Sys2Proof.Machine.execBiand_imm_aa8 bit aa s
  | .bor_imm_rd bit rd => Sys2Proof.Machine.execBor_imm_rd bit rd s
  | .bor_imm_ind bit erd => Sys2Proof.Machine.execBor_imm_ind bit erd s
  | .bor_imm_aa8 bit aa => Sys2Proof.Machine.execBor_imm_aa8 bit aa s
  | .bior_imm_rd bit rd => Sys2Proof.Machine.execBior_imm_rd bit rd s
  | .bior_imm_ind bit erd => Sys2Proof.Machine.execBior_imm_ind bit erd s
  | .bior_imm_aa8 bit aa => Sys2Proof.Machine.execBior_imm_aa8 bit aa s
  | .bxor_imm_rd bit rd => Sys2Proof.Machine.execBxor_imm_rd bit rd s
  | .bxor_imm_ind bit erd => Sys2Proof.Machine.execBxor_imm_ind bit erd s
  | .bxor_imm_aa8 bit aa => Sys2Proof.Machine.execBxor_imm_aa8 bit aa s
  | .bixor_imm_rd bit rd => Sys2Proof.Machine.execBixor_imm_rd bit rd s
  | .bixor_imm_ind bit erd => Sys2Proof.Machine.execBixor_imm_ind bit erd s
  | .bixor_imm_aa8 bit aa => Sys2Proof.Machine.execBixor_imm_aa8 bit aa s
  | .bld_imm_rd bit rd => Sys2Proof.Machine.execBld_imm_rd bit rd s
  | .bld_imm_ind bit erd => Sys2Proof.Machine.execBld_imm_ind bit erd s
  | .bld_imm_aa8 bit aa => Sys2Proof.Machine.execBld_imm_aa8 bit aa s
  | .bild_imm_rd bit rd => Sys2Proof.Machine.execBild_imm_rd bit rd s
  | .bild_imm_ind bit erd => Sys2Proof.Machine.execBild_imm_ind bit erd s
  | .bild_imm_aa8 bit aa => Sys2Proof.Machine.execBild_imm_aa8 bit aa s
  | .bst_imm_rd bit rd => Sys2Proof.Machine.execBst_imm_rd bit rd s
  | .bst_imm_ind bit erd => Sys2Proof.Machine.execBst_imm_ind bit erd s
  | .bst_imm_aa8 bit aa => Sys2Proof.Machine.execBst_imm_aa8 bit aa s
  | .bist_imm_rd bit rd => Sys2Proof.Machine.execBist_imm_rd bit rd s
  | .bist_imm_ind bit erd => Sys2Proof.Machine.execBist_imm_ind bit erd s
  | .bist_imm_aa8 bit aa => Sys2Proof.Machine.execBist_imm_aa8 bit aa s
  -- Control transfer (44_control_transfer.md)
  | .bra_d8 disp => Sys2Proof.Machine.execBra_d8 disp s
  | .brn_d8 disp => Sys2Proof.Machine.execBrn_d8 disp s
  | .bhi_d8 disp => Sys2Proof.Machine.execBhi_d8 disp s
  | .bls_d8 disp => Sys2Proof.Machine.execBls_d8 disp s
  | .bcc_d8 disp => Sys2Proof.Machine.execBcc_d8 disp s
  | .bcs_d8 disp => Sys2Proof.Machine.execBcs_d8 disp s
  | .bne_d8 disp => Sys2Proof.Machine.execBne_d8 disp s
  | .beq_d8 disp => Sys2Proof.Machine.execBeq_d8 disp s
  | .bvc_d8 disp => Sys2Proof.Machine.execBvc_d8 disp s
  | .bvs_d8 disp => Sys2Proof.Machine.execBvs_d8 disp s
  | .bpl_d8 disp => Sys2Proof.Machine.execBpl_d8 disp s
  | .bmi_d8 disp => Sys2Proof.Machine.execBmi_d8 disp s
  | .bge_d8 disp => Sys2Proof.Machine.execBge_d8 disp s
  | .blt_d8 disp => Sys2Proof.Machine.execBlt_d8 disp s
  | .bgt_d8 disp => Sys2Proof.Machine.execBgt_d8 disp s
  | .ble_d8 disp => Sys2Proof.Machine.execBle_d8 disp s
  | .bra_d16 disp => Sys2Proof.Machine.execBra_d16 disp s
  | .brn_d16 disp => Sys2Proof.Machine.execBrn_d16 disp s
  | .bhi_d16 disp => Sys2Proof.Machine.execBhi_d16 disp s
  | .bls_d16 disp => Sys2Proof.Machine.execBls_d16 disp s
  | .bcc_d16 disp => Sys2Proof.Machine.execBcc_d16 disp s
  | .bcs_d16 disp => Sys2Proof.Machine.execBcs_d16 disp s
  | .bne_d16 disp => Sys2Proof.Machine.execBne_d16 disp s
  | .beq_d16 disp => Sys2Proof.Machine.execBeq_d16 disp s
  | .bvc_d16 disp => Sys2Proof.Machine.execBvc_d16 disp s
  | .bvs_d16 disp => Sys2Proof.Machine.execBvs_d16 disp s
  | .bpl_d16 disp => Sys2Proof.Machine.execBpl_d16 disp s
  | .bmi_d16 disp => Sys2Proof.Machine.execBmi_d16 disp s
  | .bge_d16 disp => Sys2Proof.Machine.execBge_d16 disp s
  | .blt_d16 disp => Sys2Proof.Machine.execBlt_d16 disp s
  | .bgt_d16 disp => Sys2Proof.Machine.execBgt_d16 disp s
  | .ble_d16 disp => Sys2Proof.Machine.execBle_d16 disp s
  | .jmp_ind ern => Sys2Proof.Machine.execJmp_ind ern s
  | .jmp_aa24 aa => Sys2Proof.Machine.execJmp_aa24 aa s
  | .jmp_memInd aa => Sys2Proof.Machine.execJmp_memInd aa s
  | .jsr_ind ern => Sys2Proof.Machine.execJsr_ind ern s
  | .jsr_aa24 aa => Sys2Proof.Machine.execJsr_aa24 aa s
  | .jsr_memInd aa => Sys2Proof.Machine.execJsr_memInd aa s
  | .bsr_d8 disp => Sys2Proof.Machine.execBsr_d8 disp s
  | .bsr_d16 disp => Sys2Proof.Machine.execBsr_d16 disp s
  | .rts => Sys2Proof.Machine.execRts s
  | .rte => Sys2Proof.Machine.execRte s
  -- System instructions and block transfer (45_system.md)
  | .andc imm => Sys2Proof.Machine.execAndc imm s
  | .orc imm => Sys2Proof.Machine.execOrc imm s
  | .xorc imm => Sys2Proof.Machine.execXorc imm s
  | .ldc_imm imm => Sys2Proof.Machine.execLdc_imm imm s
  | .ldc_rs rs => Sys2Proof.Machine.execLdc_rs rs s
  | .ldc_ind ers => Sys2Proof.Machine.execLdc_ind ers s
  | .ldc_d16 disp ers => Sys2Proof.Machine.execLdc_d16 disp ers s
  | .ldc_d24 disp ers => Sys2Proof.Machine.execLdc_d24 disp ers s
  | .ldc_postInc ers => Sys2Proof.Machine.execLdc_postInc ers s
  | .ldc_aa16 aa => Sys2Proof.Machine.execLdc_aa16 aa s
  | .ldc_aa24 aa => Sys2Proof.Machine.execLdc_aa24 aa s
  | .stc_rd rd => Sys2Proof.Machine.execStc_rd rd s
  | .stc_ind erd => Sys2Proof.Machine.execStc_ind erd s
  | .stc_d16 disp erd => Sys2Proof.Machine.execStc_d16 disp erd s
  | .stc_d24 disp erd => Sys2Proof.Machine.execStc_d24 disp erd s
  | .stc_preDec erd => Sys2Proof.Machine.execStc_preDec erd s
  | .stc_aa16 aa => Sys2Proof.Machine.execStc_aa16 aa s
  | .stc_aa24 aa => Sys2Proof.Machine.execStc_aa24 aa s
  | .nop => Sys2Proof.Machine.execNop s
  | .sleep => Sys2Proof.Machine.execSleep s
  | .trapa vec => Sys2Proof.Machine.execTrapa vec s
  | .eepmovB => Sys2Proof.Machine.execEepmovB s
  | .eepmovW => Sys2Proof.Machine.execEepmovW s

end Sys2Proof.Machine
end

