-- ==== Sys2Proof/WellFormed.lean ====
section
/-! DEFINITION. Well-formed instructions. Every operand but one kind has exactly the width of its field
(R105, R106, R107), so there is nothing to check of it. The exception is the 32-bit field of a 24-bit
data address or displacement, "whose top byte is fixed `00`" (R107): the check is that it is. -/

namespace Sys2Proof

/-- The top byte of a 32-bit address or displacement field is 00 (R107). -/
def topByteZero (x : Long) : Bool := x.extractLsb' 24 8 == 0

/-- An instruction that an encoding of 30_encoding.md stands for (R107, R116). -/
def Instr.wellFormed : Instr → Bool
  | .movB_d24_rd disp _ _ => topByteZero disp
  | .movB_aa24_rd aa _ => topByteZero aa
  | .movB_rs_d24 _ disp _ => topByteZero disp
  | .movB_rs_aa24 _ aa => topByteZero aa
  | .movW_d24_rd disp _ _ => topByteZero disp
  | .movW_aa24_rd aa _ => topByteZero aa
  | .movW_rs_d24 _ disp _ => topByteZero disp
  | .movW_rs_aa24 _ aa => topByteZero aa
  | .movL_d24_erd disp _ _ => topByteZero disp
  | .movL_aa24_erd aa _ => topByteZero aa
  | .movL_ers_d24 _ disp _ => topByteZero disp
  | .movL_ers_aa24 _ aa => topByteZero aa
  | .ldc_d24 disp _ => topByteZero disp
  | .ldc_aa24 aa => topByteZero aa
  | .stc_d24 disp _ => topByteZero disp
  | .stc_aa24 aa => topByteZero aa
  | .movB_rs_rd .. | .movB_imm_rd .. | .movB_ind_rd .. | .movB_d16_rd .. | .movB_postInc_rd ..
  | .movB_aa8_rd .. | .movB_aa16_rd .. | .movB_rs_ind .. | .movB_rs_d16 .. | .movB_rs_preDec ..
  | .movB_rs_aa8 .. | .movB_rs_aa16 .. | .movW_rs_rd .. | .movW_imm_rd .. | .movW_ind_rd ..
  | .movW_d16_rd .. | .movW_postInc_rd .. | .movW_aa16_rd .. | .movW_rs_ind .. | .movW_rs_d16 ..
  | .movW_rs_preDec .. | .movW_rs_aa16 .. | .movL_ers_erd .. | .movL_imm_erd .. | .movL_ind_erd ..
  | .movL_d16_erd .. | .movL_postInc_erd .. | .movL_aa16_erd .. | .movL_ers_ind .. | .movL_ers_d16 ..
  | .movL_ers_preDec .. | .movL_ers_aa16 .. | .movfpe_aa16_rd .. | .movtpe_rs_aa16 .. | .addB_imm_rd ..
  | .addB_rs_rd .. | .addW_imm_rd .. | .addW_rs_rd .. | .addL_imm_erd .. | .addL_ers_erd ..
  | .adds_1 .. | .adds_2 .. | .adds_4 .. | .addx_imm_rd .. | .addx_rs_rd .. | .subB_rs_rd ..
  | .subW_imm_rd .. | .subW_rs_rd .. | .subL_imm_erd .. | .subL_ers_erd .. | .subs_1 .. | .subs_2 ..
  | .subs_4 .. | .subx_imm_rd .. | .subx_rs_rd .. | .cmpB_imm_rd .. | .cmpB_rs_rd .. | .cmpW_imm_rd ..
  | .cmpW_rs_rd .. | .cmpL_imm_erd .. | .cmpL_ers_erd .. | .negB .. | .negW .. | .negL .. | .daa ..
  | .das .. | .mulxuB_rs_rd .. | .mulxuW_rs_erd .. | .divxuB_rs_rd .. | .divxuW_rs_erd ..
  | .divxsB_rs_rd .. | .divxsW_rs_erd .. | .mulxsB_rs_rd .. | .mulxsW_rs_erd .. | .incB .. | .incW_1 ..
  | .incW_2 .. | .incL_1 .. | .incL_2 .. | .decB .. | .decW_1 .. | .decW_2 .. | .decL_1 .. | .decL_2 ..
  | .extuW .. | .extuL .. | .extsW .. | .extsL .. | .andB_imm_rd .. | .andB_rs_rd .. | .andW_imm_rd ..
  | .andW_rs_rd .. | .andL_imm_erd .. | .andL_ers_erd .. | .orB_imm_rd .. | .orB_rs_rd ..
  | .orW_imm_rd .. | .orW_rs_rd .. | .orL_imm_erd .. | .orL_ers_erd .. | .xorB_imm_rd ..
  | .xorB_rs_rd .. | .xorW_imm_rd .. | .xorW_rs_rd .. | .xorL_imm_erd .. | .xorL_ers_erd .. | .notB ..
  | .notW .. | .notL .. | .shalB .. | .shalW .. | .shalL .. | .sharB .. | .sharW .. | .sharL ..
  | .shllB .. | .shllW .. | .shllL .. | .shlrB .. | .shlrW .. | .shlrL .. | .rotlB .. | .rotlW ..
  | .rotlL .. | .rotrB .. | .rotrW .. | .rotrL .. | .rotxlB .. | .rotxlW .. | .rotxlL .. | .rotxrB ..
  | .rotxrW .. | .rotxrL .. | .bset_imm_rd .. | .bset_imm_ind .. | .bset_imm_aa8 .. | .bset_rn_rd ..
  | .bset_rn_ind .. | .bset_rn_aa8 .. | .bclr_imm_rd .. | .bclr_imm_ind .. | .bclr_imm_aa8 ..
  | .bclr_rn_rd .. | .bclr_rn_ind .. | .bclr_rn_aa8 .. | .bnot_imm_rd .. | .bnot_imm_ind ..
  | .bnot_imm_aa8 .. | .bnot_rn_rd .. | .bnot_rn_ind .. | .bnot_rn_aa8 .. | .btst_imm_rd ..
  | .btst_imm_ind .. | .btst_imm_aa8 .. | .btst_rn_rd .. | .btst_rn_ind .. | .btst_rn_aa8 ..
  | .band_imm_rd .. | .band_imm_ind .. | .band_imm_aa8 .. | .biand_imm_rd .. | .biand_imm_ind ..
  | .biand_imm_aa8 .. | .bor_imm_rd .. | .bor_imm_ind .. | .bor_imm_aa8 .. | .bior_imm_rd ..
  | .bior_imm_ind .. | .bior_imm_aa8 .. | .bxor_imm_rd .. | .bxor_imm_ind .. | .bxor_imm_aa8 ..
  | .bixor_imm_rd .. | .bixor_imm_ind .. | .bixor_imm_aa8 .. | .bld_imm_rd .. | .bld_imm_ind ..
  | .bld_imm_aa8 .. | .bild_imm_rd .. | .bild_imm_ind .. | .bild_imm_aa8 .. | .bst_imm_rd ..
  | .bst_imm_ind .. | .bst_imm_aa8 .. | .bist_imm_rd .. | .bist_imm_ind .. | .bist_imm_aa8 ..
  | .bra_d8 .. | .brn_d8 .. | .bhi_d8 .. | .bls_d8 .. | .bcc_d8 .. | .bcs_d8 .. | .bne_d8 ..
  | .beq_d8 .. | .bvc_d8 .. | .bvs_d8 .. | .bpl_d8 .. | .bmi_d8 .. | .bge_d8 .. | .blt_d8 ..
  | .bgt_d8 .. | .ble_d8 .. | .bra_d16 .. | .brn_d16 .. | .bhi_d16 .. | .bls_d16 .. | .bcc_d16 ..
  | .bcs_d16 .. | .bne_d16 .. | .beq_d16 .. | .bvc_d16 .. | .bvs_d16 .. | .bpl_d16 .. | .bmi_d16 ..
  | .bge_d16 .. | .blt_d16 .. | .bgt_d16 .. | .ble_d16 .. | .jmp_ind .. | .jmp_aa24 .. | .jmp_memInd ..
  | .jsr_ind .. | .jsr_aa24 .. | .jsr_memInd .. | .bsr_d8 .. | .bsr_d16 .. | .rts | .rte | .andc ..
  | .orc .. | .xorc .. | .ldc_imm .. | .ldc_rs .. | .ldc_ind .. | .ldc_d16 .. | .ldc_postInc ..
  | .ldc_aa16 .. | .stc_rd .. | .stc_ind .. | .stc_d16 .. | .stc_preDec .. | .stc_aa16 .. | .nop
  | .sleep | .trapa .. | .eepmovB | .eepmovW => true

/-- `i` is well-formed. -/
abbrev Instr.WellFormed (i : Instr) : Prop := i.wellFormed = true

end Sys2Proof
end

