-- ==== Sys2Proof/Decode.lean ====
section
/-! DEFINITION. The decoder, total on any words and any bytes, the encoder, and the helpers that cut
words into nibbles and join nibbles into words (30_encoding.md rules R100 to R116). The tables of R109,
R110 and R111 are followed nibble by nibble: a fixed nibble is matched, a field nibble is taken. -/

namespace Sys2Proof

/-! ## Nibbles, bytes and words -/

/-- Bits 15:12 of a word. -/
def nib3 (w : Word) : Nibble := w.extractLsb' 12 4

/-- Bits 11:8 of a word. -/
def nib2 (w : Word) : Nibble := w.extractLsb' 8 4

/-- Bits 7:4 of a word. -/
def nib1 (w : Word) : Nibble := w.extractLsb' 4 4

/-- Bits 3:0 of a word. -/
def nib0 (w : Word) : Nibble := w.extractLsb' 0 4

/-- A word from its four nibbles, the high one first. -/
def ofNibbles (a b c d : Nibble) : Word := a ++ b ++ c ++ d

/-- A byte from its two nibbles. -/
def byteOf (a b : Nibble) : Byte := a ++ b

/-- The high nibble of a byte. -/
def hiN (b : Byte) : Nibble := b.extractLsb' 4 4

/-- The low nibble of a byte. -/
def loN (b : Byte) : Nibble := b.extractLsb' 0 4

/-- The high word of a 32-bit field: the word that is fetched first (R106, R107). -/
def hi16 (x : Long) : Word := x.extractLsb' 16 16

/-- The low 16 bits of a wider field. -/
def lo16 {w : Nat} (x : BitVec w) : Word := x.extractLsb' 0 16

/-- Bits 23:16 of a 24-bit address: the second byte of JMP and JSR `@aa:24` (R107). -/
def top8 (x : BitVec 24) : Byte := x.extractLsb' 16 8

/-- The nibble `(0xxx)` of R103: a 3-bit field under a fixed 0. -/
def reg0 (n : BitVec 3) : Nibble := 0#1 ++ n

/-- The nibble `(1xxx)` of R103: a 3-bit field under a fixed 1. -/
def reg1 (n : BitVec 3) : Nibble := 1#1 ++ n

/-- The nibble `(00vv)` of R103: TRAPA's vector under two fixed zeros. -/
def vec0 (v : BitVec 2) : Nibble := 0#2 ++ v

/-- The 3-bit field of a nibble. -/
def lo3 (n : Nibble) : BitVec 3 := n.extractLsb' 0 3

/-! ## The decoder

Lean's compiler cannot build a term of a type with more than 245 constructors that hold data, and the
opcode table has 264 rows: the decoder is therefore outside compiled code (`noncomputable`). It is an
ordinary definition that the kernel evaluates on any words. -/

noncomputable section

/-- What the words read so far are (R102): a whole instruction and how many words it has; the beginning
of some instruction, so that another word is needed; or an undefined opcode (R114). -/
inductive DecodeResult where
  | instr (i : Instr) (words : Nat)
  | needMore
  | undefinedOpcode
  deriving DecidableEq, Repr

/-- What is made of the words that follow those already used. -/
abbrev Reader := List Word → DecodeResult

/-- A whole instruction of `words` words. -/
def done (i : Instr) (words : Nat) : Reader := fun _ => .instr i words

/-- No row matches (R114). -/
def undef : Reader := fun _ => .undefinedOpcode

/-- The next word, if it has been read. -/
def nextWord (k : Word → Reader) : Reader
  | [] => .needMore
  | w :: ws => k w ws

/-- A 32-bit immediate: two words, high word first (R106). -/
def imm32Field (k : Long → Reader) : Reader := nextWord fun w => nextWord fun x => k (w ++ x)

/-- The 32-bit field of a 24-bit data address or displacement: its top byte must be 00 (R107, R116). -/
def addr24Field (k : Long → Reader) : Reader :=
  nextWord fun w => if w.extractLsb' 8 8 = 0#8 then nextWord fun x => k (w ++ x) else undef

/-- A long-register nibble `(0xxx)`: bit 3 must be 0 (R105, R116). -/
def longReg (n : Nibble) (k : Reg3 → Reader) : Reader := if n.msb then undef else k (lo3 n)

/-- A nibble that must be 0 (R116). -/
def zeroNibble (n : Nibble) (r : Reader) : Reader := if n = 0 then r else undef

/-- First byte 0x (R109, R110), but for the prefix 01. -/
def decode0 (b c d : Nibble) : Reader :=
  match b with
  | 0x0#4 => zeroNibble c (zeroNibble d (done .nop 1))
  | 0x2#4 => zeroNibble c (done (.stc_rd d) 1)
  | 0x3#4 => zeroNibble c (done (.ldc_rs d) 1)
  | 0x4#4 => done (.orc (byteOf c d)) 1
  | 0x5#4 => done (.xorc (byteOf c d)) 1
  | 0x6#4 => done (.andc (byteOf c d)) 1
  | 0x7#4 => done (.ldc_imm (byteOf c d)) 1
  | 0x8#4 => done (.addB_rs_rd c d) 1
  | 0x9#4 => done (.addW_rs_rd c d) 1
  | 0xA#4 =>
    if c.msb then longReg d fun erd => done (.addL_ers_erd (lo3 c) erd) 1
    else zeroNibble c (done (.incB d) 1)
  | 0xB#4 =>
    match c with
    | 0x0#4 => longReg d fun erd => done (.adds_1 erd) 1
    | 0x5#4 => done (.incW_1 d) 1
    | 0x7#4 => longReg d fun erd => done (.incL_1 erd) 1
    | 0x8#4 => longReg d fun erd => done (.adds_2 erd) 1
    | 0x9#4 => longReg d fun erd => done (.adds_4 erd) 1
    | 0xD#4 => done (.incW_2 d) 1
    | 0xF#4 => longReg d fun erd => done (.incL_2 erd) 1
    | _ => undef
  | 0xC#4 => done (.movB_rs_rd c d) 1
  | 0xD#4 => done (.movW_rs_rd c d) 1
  | 0xE#4 => done (.addx_rs_rd c d) 1
  | 0xF#4 =>
    if c.msb then longReg d fun erd => done (.movL_ers_erd (lo3 c) erd) 1
    else zeroNibble c (done (.daa d) 1)
  | _ => undef

/-- First byte 1x (R109, R110). -/
def decode1 (b c d : Nibble) : Reader :=
  match b with
  | 0x0#4 =>
    match c with
    | 0x0#4 => done (.shllB d) 1
    | 0x1#4 => done (.shllW d) 1
    | 0x3#4 => longReg d fun erd => done (.shllL erd) 1
    | 0x8#4 => done (.shalB d) 1
    | 0x9#4 => done (.shalW d) 1
    | 0xB#4 => longReg d fun erd => done (.shalL erd) 1
    | _ => undef
  | 0x1#4 =>
    match c with
    | 0x0#4 => done (.shlrB d) 1
    | 0x1#4 => done (.shlrW d) 1
    | 0x3#4 => longReg d fun erd => done (.shlrL erd) 1
    | 0x8#4 => done (.sharB d) 1
    | 0x9#4 => done (.sharW d) 1
    | 0xB#4 => longReg d fun erd => done (.sharL erd) 1
    | _ => undef
  | 0x2#4 =>
    match c with
    | 0x0#4 => done (.rotxlB d) 1
    | 0x1#4 => done (.rotxlW d) 1
    | 0x3#4 => longReg d fun erd => done (.rotxlL erd) 1
    | 0x8#4 => done (.rotlB d) 1
    | 0x9#4 => done (.rotlW d) 1
    | 0xB#4 => longReg d fun erd => done (.rotlL erd) 1
    | _ => undef
  | 0x3#4 =>
    match c with
    | 0x0#4 => done (.rotxrB d) 1
    | 0x1#4 => done (.rotxrW d) 1
    | 0x3#4 => longReg d fun erd => done (.rotxrL erd) 1
    | 0x8#4 => done (.rotrB d) 1
    | 0x9#4 => done (.rotrW d) 1
    | 0xB#4 => longReg d fun erd => done (.rotrL erd) 1
    | _ => undef
  | 0x4#4 => done (.orB_rs_rd c d) 1
  | 0x5#4 => done (.xorB_rs_rd c d) 1
  | 0x6#4 => done (.andB_rs_rd c d) 1
  | 0x7#4 =>
    match c with
    | 0x0#4 => done (.notB d) 1
    | 0x1#4 => done (.notW d) 1
    | 0x3#4 => longReg d fun erd => done (.notL erd) 1
    | 0x5#4 => done (.extuW d) 1
    | 0x7#4 => longReg d fun erd => done (.extuL erd) 1
    | 0x8#4 => done (.negB d) 1
    | 0x9#4 => done (.negW d) 1
    | 0xB#4 => longReg d fun erd => done (.negL erd) 1
    | 0xD#4 => done (.extsW d) 1
    | 0xF#4 => longReg d fun erd => done (.extsL erd) 1
    | _ => undef
  | 0x8#4 => done (.subB_rs_rd c d) 1
  | 0x9#4 => done (.subW_rs_rd c d) 1
  | 0xA#4 =>
    if c.msb then longReg d fun erd => done (.subL_ers_erd (lo3 c) erd) 1
    else zeroNibble c (done (.decB d) 1)
  | 0xB#4 =>
    match c with
    | 0x0#4 => longReg d fun erd => done (.subs_1 erd) 1
    | 0x5#4 => done (.decW_1 d) 1
    | 0x7#4 => longReg d fun erd => done (.decL_1 erd) 1
    | 0x8#4 => longReg d fun erd => done (.subs_2 erd) 1
    | 0x9#4 => longReg d fun erd => done (.subs_4 erd) 1
    | 0xD#4 => done (.decW_2 d) 1
    | 0xF#4 => longReg d fun erd => done (.decL_2 erd) 1
    | _ => undef
  | 0xC#4 => done (.cmpB_rs_rd c d) 1
  | 0xD#4 => done (.cmpW_rs_rd c d) 1
  | 0xE#4 => done (.subx_rs_rd c d) 1
  | 0xF#4 =>
    if c.msb then longReg d fun erd => done (.cmpL_ers_erd (lo3 c) erd) 1
    else zeroNibble c (done (.das d) 1)
  | _ => undef

/-- First byte 4x: Bcc d:8, the condition in the low nibble (R109, R261). -/
def decodeBcc8 (c : Nibble) (disp : Byte) : Instr :=
  match c with
  | 0x0#4 => .bra_d8 disp
  | 0x1#4 => .brn_d8 disp
  | 0x2#4 => .bhi_d8 disp
  | 0x3#4 => .bls_d8 disp
  | 0x4#4 => .bcc_d8 disp
  | 0x5#4 => .bcs_d8 disp
  | 0x6#4 => .bne_d8 disp
  | 0x7#4 => .beq_d8 disp
  | 0x8#4 => .bvc_d8 disp
  | 0x9#4 => .bvs_d8 disp
  | 0xA#4 => .bpl_d8 disp
  | 0xB#4 => .bmi_d8 disp
  | 0xC#4 => .bge_d8 disp
  | 0xD#4 => .blt_d8 disp
  | 0xE#4 => .bgt_d8 disp
  | _ => .ble_d8 disp

/-- First byte 58: Bcc d:16, the condition in the high nibble of the second byte (R110, R261). -/
def decodeBcc16 (c : Nibble) (disp : Word) : Instr :=
  match c with
  | 0x0#4 => .bra_d16 disp
  | 0x1#4 => .brn_d16 disp
  | 0x2#4 => .bhi_d16 disp
  | 0x3#4 => .bls_d16 disp
  | 0x4#4 => .bcc_d16 disp
  | 0x5#4 => .bcs_d16 disp
  | 0x6#4 => .bne_d16 disp
  | 0x7#4 => .beq_d16 disp
  | 0x8#4 => .bvc_d16 disp
  | 0x9#4 => .bvs_d16 disp
  | 0xA#4 => .bpl_d16 disp
  | 0xB#4 => .bmi_d16 disp
  | 0xC#4 => .bge_d16 disp
  | 0xD#4 => .blt_d16 disp
  | 0xE#4 => .bgt_d16 disp
  | _ => .ble_d16 disp

/-- First byte 5x (R109). -/
def decode5 (b c d : Nibble) : Reader :=
  match b with
  | 0x0#4 => done (.mulxuB_rs_rd c d) 1
  | 0x1#4 => done (.divxuB_rs_rd c d) 1
  | 0x2#4 => longReg d fun erd => done (.mulxuW_rs_erd c erd) 1
  | 0x3#4 => longReg d fun erd => done (.divxuW_rs_erd c erd) 1
  | 0x4#4 => if byteOf c d = 0x70 then done .rts 1 else undef
  | 0x5#4 => done (.bsr_d8 (byteOf c d)) 1
  | 0x6#4 => if byteOf c d = 0x70 then done .rte 1 else undef
  | 0x7#4 =>
    if c.extractLsb' 2 2 = 0#2 then zeroNibble d (done (.trapa (c.extractLsb' 0 2)) 1)
    else undef
  | 0x8#4 => zeroNibble d (nextWord fun w1 => done (decodeBcc16 c w1) 2)
  | 0x9#4 => longReg c fun ern => zeroNibble d (done (.jmp_ind ern) 1)
  | 0xA#4 => nextWord fun w1 => done (.jmp_aa24 (byteOf c d ++ w1)) 2
  | 0xB#4 => done (.jmp_memInd (byteOf c d)) 1
  | 0xC#4 => zeroNibble c (zeroNibble d (nextWord fun w1 => done (.bsr_d16 w1) 2))
  | 0xD#4 => longReg c fun ern => zeroNibble d (done (.jsr_ind ern) 1)
  | 0xE#4 => nextWord fun w1 => done (.jsr_aa24 (byteOf c d ++ w1)) 2
  | _ => done (.jsr_memInd (byteOf c d)) 1

/-- First byte 6x (R109, R110). Bit 7 of the second byte tells load from store, or BST from BIST. -/
def decode6 (b c d : Nibble) : Reader :=
  match b with
  | 0x0#4 => done (.bset_rn_rd c d) 1
  | 0x1#4 => done (.bnot_rn_rd c d) 1
  | 0x2#4 => done (.bclr_rn_rd c d) 1
  | 0x3#4 => done (.btst_rn_rd c d) 1
  | 0x4#4 => done (.orW_rs_rd c d) 1
  | 0x5#4 => done (.xorW_rs_rd c d) 1
  | 0x6#4 => done (.andW_rs_rd c d) 1
  | 0x7#4 => done (if c.msb then .bist_imm_rd (lo3 c) d else .bst_imm_rd (lo3 c) d) 1
  | 0x8#4 => done (if c.msb then .movB_rs_ind d (lo3 c) else .movB_ind_rd (lo3 c) d) 1
  | 0x9#4 => done (if c.msb then .movW_rs_ind d (lo3 c) else .movW_ind_rd (lo3 c) d) 1
  | 0xA#4 =>
    match c with
    | 0x0#4 => nextWord fun w1 => done (.movB_aa16_rd w1 d) 2
    | 0x2#4 => addr24Field fun aa => done (.movB_aa24_rd aa d) 3
    | 0x4#4 => nextWord fun w1 => done (.movfpe_aa16_rd w1 d) 2
    | 0x8#4 => nextWord fun w1 => done (.movB_rs_aa16 d w1) 2
    | 0xA#4 => addr24Field fun aa => done (.movB_rs_aa24 d aa) 3
    | 0xC#4 => nextWord fun w1 => done (.movtpe_rs_aa16 d w1) 2
    | _ => undef
  | 0xB#4 =>
    match c with
    | 0x0#4 => nextWord fun w1 => done (.movW_aa16_rd w1 d) 2
    | 0x2#4 => addr24Field fun aa => done (.movW_aa24_rd aa d) 3
    | 0x8#4 => nextWord fun w1 => done (.movW_rs_aa16 d w1) 2
    | 0xA#4 => addr24Field fun aa => done (.movW_rs_aa24 d aa) 3
    | _ => undef
  | 0xC#4 => done (if c.msb then .movB_rs_preDec d (lo3 c) else .movB_postInc_rd (lo3 c) d) 1
  | 0xD#4 => done (if c.msb then .movW_rs_preDec d (lo3 c) else .movW_postInc_rd (lo3 c) d) 1
  | 0xE#4 => nextWord fun w1 =>
      done (if c.msb then .movB_rs_d16 d w1 (lo3 c) else .movB_d16_rd w1 (lo3 c) d) 2
  | _ => nextWord fun w1 =>
      done (if c.msb then .movW_rs_d16 d w1 (lo3 c) else .movW_d16_rd w1 (lo3 c) d) 2

/-- `79` and the nibble that selects the operation: word immediates (R110). -/
def decode79 (c rd : Nibble) : Reader :=
  match c with
  | 0x0#4 => nextWord fun w1 => done (.movW_imm_rd w1 rd) 2
  | 0x1#4 => nextWord fun w1 => done (.addW_imm_rd w1 rd) 2
  | 0x2#4 => nextWord fun w1 => done (.cmpW_imm_rd w1 rd) 2
  | 0x3#4 => nextWord fun w1 => done (.subW_imm_rd w1 rd) 2
  | 0x4#4 => nextWord fun w1 => done (.orW_imm_rd w1 rd) 2
  | 0x5#4 => nextWord fun w1 => done (.xorW_imm_rd w1 rd) 2
  | 0x6#4 => nextWord fun w1 => done (.andW_imm_rd w1 rd) 2
  | _ => undef

/-- `7A` and the nibble that selects the operation: long immediates (R110). -/
def decode7A (c : Nibble) (erd : Reg3) : Reader :=
  match c with
  | 0x0#4 => imm32Field fun imm => done (.movL_imm_erd imm erd) 3
  | 0x1#4 => imm32Field fun imm => done (.addL_imm_erd imm erd) 3
  | 0x2#4 => imm32Field fun imm => done (.cmpL_imm_erd imm erd) 3
  | 0x3#4 => imm32Field fun imm => done (.subL_imm_erd imm erd) 3
  | 0x4#4 => imm32Field fun imm => done (.orL_imm_erd imm erd) 3
  | 0x5#4 => imm32Field fun imm => done (.xorL_imm_erd imm erd) 3
  | 0x6#4 => imm32Field fun imm => done (.andL_imm_erd imm erd) 3
  | _ => undef

/-- `78 (0rrr)0` and the word after it: MOV.B and MOV.W with `@(d:24,ERn)` (R111). -/
def decode78 (er : Reg3) : Reader :=
  nextWord fun w1 =>
    match byteOf (nib3 w1) (nib2 w1), nib1 w1 with
    | 0x6A#8, 0x2#4 => addr24Field fun disp => done (.movB_d24_rd disp er (nib0 w1)) 4
    | 0x6A#8, 0xA#4 => addr24Field fun disp => done (.movB_rs_d24 (nib0 w1) disp er) 4
    | 0x6B#8, 0x2#4 => addr24Field fun disp => done (.movW_d24_rd disp er (nib0 w1)) 4
    | 0x6B#8, 0xA#4 => addr24Field fun disp => done (.movW_rs_d24 (nib0 w1) disp er) 4
    | _, _ => undef

/-- The word after `7C (0ddd)0`: reading bit operations on `@ERd` (R111, R241). -/
def decodeBitReadInd (er : Reg3) (w1 : Word) : Reader :=
  zeroNibble (nib0 w1)
    (match byteOf (nib3 w1) (nib2 w1), (nib1 w1).msb with
     | 0x63#8, _ => done (.btst_rn_ind (nib1 w1) er) 2
     | 0x73#8, false => done (.btst_imm_ind (lo3 (nib1 w1)) er) 2
     | 0x74#8, false => done (.bor_imm_ind (lo3 (nib1 w1)) er) 2
     | 0x74#8, true => done (.bior_imm_ind (lo3 (nib1 w1)) er) 2
     | 0x75#8, false => done (.bxor_imm_ind (lo3 (nib1 w1)) er) 2
     | 0x75#8, true => done (.bixor_imm_ind (lo3 (nib1 w1)) er) 2
     | 0x76#8, false => done (.band_imm_ind (lo3 (nib1 w1)) er) 2
     | 0x76#8, true => done (.biand_imm_ind (lo3 (nib1 w1)) er) 2
     | 0x77#8, false => done (.bld_imm_ind (lo3 (nib1 w1)) er) 2
     | 0x77#8, true => done (.bild_imm_ind (lo3 (nib1 w1)) er) 2
     | _, _ => undef)

/-- The word after `7E aa`: reading bit operations on `@aa:8` (R111, R241). -/
def decodeBitReadAa8 (aa : Byte) (w1 : Word) : Reader :=
  zeroNibble (nib0 w1)
    (match byteOf (nib3 w1) (nib2 w1), (nib1 w1).msb with
     | 0x63#8, _ => done (.btst_rn_aa8 (nib1 w1) aa) 2
     | 0x73#8, false => done (.btst_imm_aa8 (lo3 (nib1 w1)) aa) 2
     | 0x74#8, false => done (.bor_imm_aa8 (lo3 (nib1 w1)) aa) 2
     | 0x74#8, true => done (.bior_imm_aa8 (lo3 (nib1 w1)) aa) 2
     | 0x75#8, false => done (.bxor_imm_aa8 (lo3 (nib1 w1)) aa) 2
     | 0x75#8, true => done (.bixor_imm_aa8 (lo3 (nib1 w1)) aa) 2
     | 0x76#8, false => done (.band_imm_aa8 (lo3 (nib1 w1)) aa) 2
     | 0x76#8, true => done (.biand_imm_aa8 (lo3 (nib1 w1)) aa) 2
     | 0x77#8, false => done (.bld_imm_aa8 (lo3 (nib1 w1)) aa) 2
     | 0x77#8, true => done (.bild_imm_aa8 (lo3 (nib1 w1)) aa) 2
     | _, _ => undef)

/-- The word after `7D (0ddd)0`: writing bit operations on `@ERd` (R111, R241). -/
def decodeBitWriteInd (er : Reg3) (w1 : Word) : Reader :=
  zeroNibble (nib0 w1)
    (match byteOf (nib3 w1) (nib2 w1), (nib1 w1).msb with
     | 0x60#8, _ => done (.bset_rn_ind (nib1 w1) er) 2
     | 0x61#8, _ => done (.bnot_rn_ind (nib1 w1) er) 2
     | 0x62#8, _ => done (.bclr_rn_ind (nib1 w1) er) 2
     | 0x67#8, false => done (.bst_imm_ind (lo3 (nib1 w1)) er) 2
     | 0x67#8, true => done (.bist_imm_ind (lo3 (nib1 w1)) er) 2
     | 0x70#8, false => done (.bset_imm_ind (lo3 (nib1 w1)) er) 2
     | 0x71#8, false => done (.bnot_imm_ind (lo3 (nib1 w1)) er) 2
     | 0x72#8, false => done (.bclr_imm_ind (lo3 (nib1 w1)) er) 2
     | _, _ => undef)

/-- The word after `7F aa`: writing bit operations on `@aa:8` (R111, R241). -/
def decodeBitWriteAa8 (aa : Byte) (w1 : Word) : Reader :=
  zeroNibble (nib0 w1)
    (match byteOf (nib3 w1) (nib2 w1), (nib1 w1).msb with
     | 0x60#8, _ => done (.bset_rn_aa8 (nib1 w1) aa) 2
     | 0x61#8, _ => done (.bnot_rn_aa8 (nib1 w1) aa) 2
     | 0x62#8, _ => done (.bclr_rn_aa8 (nib1 w1) aa) 2
     | 0x67#8, false => done (.bst_imm_aa8 (lo3 (nib1 w1)) aa) 2
     | 0x67#8, true => done (.bist_imm_aa8 (lo3 (nib1 w1)) aa) 2
     | 0x70#8, false => done (.bset_imm_aa8 (lo3 (nib1 w1)) aa) 2
     | 0x71#8, false => done (.bnot_imm_aa8 (lo3 (nib1 w1)) aa) 2
     | 0x72#8, false => done (.bclr_imm_aa8 (lo3 (nib1 w1)) aa) 2
     | _, _ => undef)

/-- First byte 7x (R109). -/
def decode7 (b c d : Nibble) : Reader :=
  match b with
  | 0x0#4 => longReg c fun bit => done (.bset_imm_rd bit d) 1
  | 0x1#4 => longReg c fun bit => done (.bnot_imm_rd bit d) 1
  | 0x2#4 => longReg c fun bit => done (.bclr_imm_rd bit d) 1
  | 0x3#4 => longReg c fun bit => done (.btst_imm_rd bit d) 1
  | 0x4#4 => done (if c.msb then .bior_imm_rd (lo3 c) d else .bor_imm_rd (lo3 c) d) 1
  | 0x5#4 => done (if c.msb then .bixor_imm_rd (lo3 c) d else .bxor_imm_rd (lo3 c) d) 1
  | 0x6#4 => done (if c.msb then .biand_imm_rd (lo3 c) d else .band_imm_rd (lo3 c) d) 1
  | 0x7#4 => done (if c.msb then .bild_imm_rd (lo3 c) d else .bld_imm_rd (lo3 c) d) 1
  | 0x8#4 => longReg c fun er => zeroNibble d (decode78 er)
  | 0x9#4 => decode79 c d
  | 0xA#4 => longReg d fun erd => decode7A c erd
  | 0xB#4 =>
    match byteOf c d with
    | 0x5C#8 => nextWord fun w1 => if w1 = 0x598F then done .eepmovB 2 else undef
    | 0xD4#8 => nextWord fun w1 => if w1 = 0x598F then done .eepmovW 2 else undef
    | _ => undef
  | 0xC#4 => longReg c fun er => zeroNibble d (nextWord fun w1 => decodeBitReadInd er w1)
  | 0xD#4 => longReg c fun er => zeroNibble d (nextWord fun w1 => decodeBitWriteInd er w1)
  | 0xE#4 => nextWord fun w1 => decodeBitReadAa8 (byteOf c d) w1
  | _ => nextWord fun w1 => decodeBitWriteAa8 (byteOf c d) w1

/-- The words after the prefix `01 00`: MOV.L with memory (R111). -/
def decode0100 : Reader :=
  nextWord fun w1 =>
    match byteOf (nib3 w1) (nib2 w1) with
    | 0x69#8 => longReg (nib0 w1) fun r =>
        done (if (nib1 w1).msb then .movL_ers_ind r (lo3 (nib1 w1)) else .movL_ind_erd (lo3 (nib1 w1)) r) 2
    | 0x6B#8 => longReg (nib0 w1) fun r =>
        match nib1 w1 with
        | 0x0#4 => nextWord fun aa => done (.movL_aa16_erd aa r) 3
        | 0x2#4 => addr24Field fun aa => done (.movL_aa24_erd aa r) 4
        | 0x8#4 => nextWord fun aa => done (.movL_ers_aa16 r aa) 3
        | 0xA#4 => addr24Field fun aa => done (.movL_ers_aa24 r aa) 4
        | _ => undef
    | 0x6D#8 => longReg (nib0 w1) fun r =>
        done (if (nib1 w1).msb then .movL_ers_preDec r (lo3 (nib1 w1)) else .movL_postInc_erd (lo3 (nib1 w1)) r) 2
    | 0x6F#8 => longReg (nib0 w1) fun r => nextWord fun disp =>
        done (if (nib1 w1).msb then .movL_ers_d16 r disp (lo3 (nib1 w1))
                else .movL_d16_erd disp (lo3 (nib1 w1)) r) 3
    | 0x78#8 => zeroNibble (nib0 w1) (nextWord fun w2 =>
        match byteOf (nib3 w2) (nib2 w2), nib1 w2, (nib1 w1).msb with
        | 0x6B#8, 0x2#4, false => longReg (nib0 w2) fun r => addr24Field fun disp =>
            done (.movL_d24_erd disp (lo3 (nib1 w1)) r) 5
        | 0x6B#8, 0xA#4, true => longReg (nib0 w2) fun r => addr24Field fun disp =>
            done (.movL_ers_d24 r disp (lo3 (nib1 w1))) 5
        | _, _, _ => undef)
    | _ => undef

/-- The words after the prefix `01 40`: LDC and STC with memory (R111). -/
def decode0140 : Reader :=
  nextWord fun w1 =>
    match byteOf (nib3 w1) (nib2 w1) with
    | 0x69#8 => zeroNibble (nib0 w1)
        (done (if (nib1 w1).msb then .stc_ind (lo3 (nib1 w1)) else .ldc_ind (lo3 (nib1 w1))) 2)
    | 0x6B#8 => zeroNibble (nib0 w1)
        (match nib1 w1 with
         | 0x0#4 => nextWord fun aa => done (.ldc_aa16 aa) 3
         | 0x2#4 => addr24Field fun aa => done (.ldc_aa24 aa) 4
         | 0x8#4 => nextWord fun aa => done (.stc_aa16 aa) 3
         | 0xA#4 => addr24Field fun aa => done (.stc_aa24 aa) 4
         | _ => undef)
    | 0x6D#8 => zeroNibble (nib0 w1)
        (done (if (nib1 w1).msb then .stc_preDec (lo3 (nib1 w1)) else .ldc_postInc (lo3 (nib1 w1))) 2)
    | 0x6F#8 => zeroNibble (nib0 w1) (nextWord fun disp =>
        done (if (nib1 w1).msb then .stc_d16 disp (lo3 (nib1 w1)) else .ldc_d16 disp (lo3 (nib1 w1))) 3)
    | 0x78#8 => longReg (nib1 w1) fun er => zeroNibble (nib0 w1) (nextWord fun w2 =>
        match w2 with
        | 0x6B20#16 => addr24Field fun disp => done (.ldc_d24 disp er) 5
        | 0x6BA0#16 => addr24Field fun disp => done (.stc_d24 disp er) 5
        | _ => undef)
    | _ => undef

/-- First byte 01: the prefixes and SLEEP (R109, R111). -/
def decode01 (c d : Nibble) : Reader :=
  match byteOf c d with
  | 0x00#8 => decode0100
  | 0x40#8 => decode0140
  | 0x80#8 => done .sleep 1
  | 0xC0#8 => nextWord fun w1 =>
      match byteOf (nib3 w1) (nib2 w1) with
      | 0x50#8 => done (.mulxsB_rs_rd (nib1 w1) (nib0 w1)) 2
      | 0x52#8 => longReg (nib0 w1) fun erd => done (.mulxsW_rs_erd (nib1 w1) erd) 2
      | _ => undef
  | 0xD0#8 => nextWord fun w1 =>
      match byteOf (nib3 w1) (nib2 w1) with
      | 0x51#8 => done (.divxsB_rs_rd (nib1 w1) (nib0 w1)) 2
      | 0x53#8 => longReg (nib0 w1) fun erd => done (.divxsW_rs_erd (nib1 w1) erd) 2
      | _ => undef
  | 0xF0#8 => nextWord fun w1 =>
      longReg (nib1 w1) fun ers => longReg (nib0 w1) fun erd =>
        match byteOf (nib3 w1) (nib2 w1) with
        | 0x64#8 => done (.orL_ers_erd ers erd) 2
        | 0x65#8 => done (.xorL_ers_erd ers erd) 2
        | 0x66#8 => done (.andL_ers_erd ers erd) 2
        | _ => undef
  | _ => undef

/-- The main map (R109): `a` and `b` are the nibbles of the first byte, `c` and `d` those of the second,
`ws` the words after the first that have been read. -/
def decodeNibbles (a b c d : Nibble) : Reader :=
  match a with
  | 0x0#4 => if b = 1 then decode01 c d else decode0 b c d
  | 0x1#4 => decode1 b c d
  | 0x2#4 => done (.movB_aa8_rd (byteOf c d) b) 1
  | 0x3#4 => done (.movB_rs_aa8 b (byteOf c d)) 1
  | 0x4#4 => done (decodeBcc8 b (byteOf c d)) 1
  | 0x5#4 => decode5 b c d
  | 0x6#4 => decode6 b c d
  | 0x7#4 => decode7 b c d
  | 0x8#4 => done (.addB_imm_rd (byteOf c d) b) 1
  | 0x9#4 => done (.addx_imm_rd (byteOf c d) b) 1
  | 0xA#4 => done (.cmpB_imm_rd (byteOf c d) b) 1
  | 0xB#4 => done (.subx_imm_rd (byteOf c d) b) 1
  | 0xC#4 => done (.orB_imm_rd (byteOf c d) b) 1
  | 0xD#4 => done (.xorB_imm_rd (byteOf c d) b) 1
  | 0xE#4 => done (.andB_imm_rd (byteOf c d) b) 1
  | _ => done (.movB_imm_rd (byteOf c d) b) 1

/-- Decode the words read so far, the first one first (R102). -/
def decode : List Word → DecodeResult :=
  nextWord fun w0 => decodeNibbles (nib3 w0) (nib2 w0) (nib1 w0) (nib0 w0)

/-- The words of a byte string, high byte first (R75, R100); an odd last byte is half a word and is left
out. -/
def wordsOfBytes : List Byte → List Word
  | hi :: lo :: rest => (hi ++ lo) :: wordsOfBytes rest
  | [_] => []
  | [] => []

/-- Decode the front of any byte string. -/
def decodeBytes (bs : List Byte) : DecodeResult := decode (wordsOfBytes bs)

/-! ## The encoder -/

/-- The words of an instruction, in fetch order, from the rows of R112. -/
def encode : Instr → List Word
  | .movB_rs_rd rs rd => [ofNibbles 0x0 0xC rs rd]
  | .movB_imm_rd imm rd => [ofNibbles 0xF rd (hiN imm) (loN imm)]
  | .movB_ind_rd ers rd => [ofNibbles 0x6 0x8 (reg0 ers) rd]
  | .movB_d16_rd disp ers rd => [ofNibbles 0x6 0xE (reg0 ers) rd, disp]
  | .movB_d24_rd disp ers rd => [ofNibbles 0x7 0x8 (reg0 ers) 0x0, ofNibbles 0x6 0xA 0x2 rd, hi16 disp, lo16 disp]
  | .movB_postInc_rd ers rd => [ofNibbles 0x6 0xC (reg0 ers) rd]
  | .movB_aa8_rd aa rd => [ofNibbles 0x2 rd (hiN aa) (loN aa)]
  | .movB_aa16_rd aa rd => [ofNibbles 0x6 0xA 0x0 rd, aa]
  | .movB_aa24_rd aa rd => [ofNibbles 0x6 0xA 0x2 rd, hi16 aa, lo16 aa]
  | .movB_rs_ind rs erd => [ofNibbles 0x6 0x8 (reg1 erd) rs]
  | .movB_rs_d16 rs disp erd => [ofNibbles 0x6 0xE (reg1 erd) rs, disp]
  | .movB_rs_d24 rs disp erd => [ofNibbles 0x7 0x8 (reg0 erd) 0x0, ofNibbles 0x6 0xA 0xA rs, hi16 disp, lo16 disp]
  | .movB_rs_preDec rs erd => [ofNibbles 0x6 0xC (reg1 erd) rs]
  | .movB_rs_aa8 rs aa => [ofNibbles 0x3 rs (hiN aa) (loN aa)]
  | .movB_rs_aa16 rs aa => [ofNibbles 0x6 0xA 0x8 rs, aa]
  | .movB_rs_aa24 rs aa => [ofNibbles 0x6 0xA 0xA rs, hi16 aa, lo16 aa]
  | .movW_rs_rd rs rd => [ofNibbles 0x0 0xD rs rd]
  | .movW_imm_rd imm rd => [ofNibbles 0x7 0x9 0x0 rd, imm]
  | .movW_ind_rd ers rd => [ofNibbles 0x6 0x9 (reg0 ers) rd]
  | .movW_d16_rd disp ers rd => [ofNibbles 0x6 0xF (reg0 ers) rd, disp]
  | .movW_d24_rd disp ers rd => [ofNibbles 0x7 0x8 (reg0 ers) 0x0, ofNibbles 0x6 0xB 0x2 rd, hi16 disp, lo16 disp]
  | .movW_postInc_rd ers rd => [ofNibbles 0x6 0xD (reg0 ers) rd]
  | .movW_aa16_rd aa rd => [ofNibbles 0x6 0xB 0x0 rd, aa]
  | .movW_aa24_rd aa rd => [ofNibbles 0x6 0xB 0x2 rd, hi16 aa, lo16 aa]
  | .movW_rs_ind rs erd => [ofNibbles 0x6 0x9 (reg1 erd) rs]
  | .movW_rs_d16 rs disp erd => [ofNibbles 0x6 0xF (reg1 erd) rs, disp]
  | .movW_rs_d24 rs disp erd => [ofNibbles 0x7 0x8 (reg0 erd) 0x0, ofNibbles 0x6 0xB 0xA rs, hi16 disp, lo16 disp]
  | .movW_rs_preDec rs erd => [ofNibbles 0x6 0xD (reg1 erd) rs]
  | .movW_rs_aa16 rs aa => [ofNibbles 0x6 0xB 0x8 rs, aa]
  | .movW_rs_aa24 rs aa => [ofNibbles 0x6 0xB 0xA rs, hi16 aa, lo16 aa]
  | .movL_ers_erd ers erd => [ofNibbles 0x0 0xF (reg1 ers) (reg0 erd)]
  | .movL_imm_erd imm erd => [ofNibbles 0x7 0xA 0x0 (reg0 erd), hi16 imm, lo16 imm]
  | .movL_ind_erd ers erd => [ofNibbles 0x0 0x1 0x0 0x0, ofNibbles 0x6 0x9 (reg0 ers) (reg0 erd)]
  | .movL_d16_erd disp ers erd => [ofNibbles 0x0 0x1 0x0 0x0, ofNibbles 0x6 0xF (reg0 ers) (reg0 erd), disp]
  | .movL_d24_erd disp ers erd => [ofNibbles 0x0 0x1 0x0 0x0, ofNibbles 0x7 0x8 (reg0 ers) 0x0, ofNibbles 0x6 0xB 0x2 (reg0 erd), hi16 disp, lo16 disp]
  | .movL_postInc_erd ers erd => [ofNibbles 0x0 0x1 0x0 0x0, ofNibbles 0x6 0xD (reg0 ers) (reg0 erd)]
  | .movL_aa16_erd aa erd => [ofNibbles 0x0 0x1 0x0 0x0, ofNibbles 0x6 0xB 0x0 (reg0 erd), aa]
  | .movL_aa24_erd aa erd => [ofNibbles 0x0 0x1 0x0 0x0, ofNibbles 0x6 0xB 0x2 (reg0 erd), hi16 aa, lo16 aa]
  | .movL_ers_ind ers erd => [ofNibbles 0x0 0x1 0x0 0x0, ofNibbles 0x6 0x9 (reg1 erd) (reg0 ers)]
  | .movL_ers_d16 ers disp erd => [ofNibbles 0x0 0x1 0x0 0x0, ofNibbles 0x6 0xF (reg1 erd) (reg0 ers), disp]
  | .movL_ers_d24 ers disp erd => [ofNibbles 0x0 0x1 0x0 0x0, ofNibbles 0x7 0x8 (reg1 erd) 0x0, ofNibbles 0x6 0xB 0xA (reg0 ers), hi16 disp, lo16 disp]
  | .movL_ers_preDec ers erd => [ofNibbles 0x0 0x1 0x0 0x0, ofNibbles 0x6 0xD (reg1 erd) (reg0 ers)]
  | .movL_ers_aa16 ers aa => [ofNibbles 0x0 0x1 0x0 0x0, ofNibbles 0x6 0xB 0x8 (reg0 ers), aa]
  | .movL_ers_aa24 ers aa => [ofNibbles 0x0 0x1 0x0 0x0, ofNibbles 0x6 0xB 0xA (reg0 ers), hi16 aa, lo16 aa]
  | .movfpe_aa16_rd aa rd => [ofNibbles 0x6 0xA 0x4 rd, aa]
  | .movtpe_rs_aa16 rs aa => [ofNibbles 0x6 0xA 0xC rs, aa]
  | .addB_imm_rd imm rd => [ofNibbles 0x8 rd (hiN imm) (loN imm)]
  | .addB_rs_rd rs rd => [ofNibbles 0x0 0x8 rs rd]
  | .addW_imm_rd imm rd => [ofNibbles 0x7 0x9 0x1 rd, imm]
  | .addW_rs_rd rs rd => [ofNibbles 0x0 0x9 rs rd]
  | .addL_imm_erd imm erd => [ofNibbles 0x7 0xA 0x1 (reg0 erd), hi16 imm, lo16 imm]
  | .addL_ers_erd ers erd => [ofNibbles 0x0 0xA (reg1 ers) (reg0 erd)]
  | .adds_1 erd => [ofNibbles 0x0 0xB 0x0 (reg0 erd)]
  | .adds_2 erd => [ofNibbles 0x0 0xB 0x8 (reg0 erd)]
  | .adds_4 erd => [ofNibbles 0x0 0xB 0x9 (reg0 erd)]
  | .addx_imm_rd imm rd => [ofNibbles 0x9 rd (hiN imm) (loN imm)]
  | .addx_rs_rd rs rd => [ofNibbles 0x0 0xE rs rd]
  | .subB_rs_rd rs rd => [ofNibbles 0x1 0x8 rs rd]
  | .subW_imm_rd imm rd => [ofNibbles 0x7 0x9 0x3 rd, imm]
  | .subW_rs_rd rs rd => [ofNibbles 0x1 0x9 rs rd]
  | .subL_imm_erd imm erd => [ofNibbles 0x7 0xA 0x3 (reg0 erd), hi16 imm, lo16 imm]
  | .subL_ers_erd ers erd => [ofNibbles 0x1 0xA (reg1 ers) (reg0 erd)]
  | .subs_1 erd => [ofNibbles 0x1 0xB 0x0 (reg0 erd)]
  | .subs_2 erd => [ofNibbles 0x1 0xB 0x8 (reg0 erd)]
  | .subs_4 erd => [ofNibbles 0x1 0xB 0x9 (reg0 erd)]
  | .subx_imm_rd imm rd => [ofNibbles 0xB rd (hiN imm) (loN imm)]
  | .subx_rs_rd rs rd => [ofNibbles 0x1 0xE rs rd]
  | .cmpB_imm_rd imm rd => [ofNibbles 0xA rd (hiN imm) (loN imm)]
  | .cmpB_rs_rd rs rd => [ofNibbles 0x1 0xC rs rd]
  | .cmpW_imm_rd imm rd => [ofNibbles 0x7 0x9 0x2 rd, imm]
  | .cmpW_rs_rd rs rd => [ofNibbles 0x1 0xD rs rd]
  | .cmpL_imm_erd imm erd => [ofNibbles 0x7 0xA 0x2 (reg0 erd), hi16 imm, lo16 imm]
  | .cmpL_ers_erd ers erd => [ofNibbles 0x1 0xF (reg1 ers) (reg0 erd)]
  | .negB rd => [ofNibbles 0x1 0x7 0x8 rd]
  | .negW rd => [ofNibbles 0x1 0x7 0x9 rd]
  | .negL erd => [ofNibbles 0x1 0x7 0xB (reg0 erd)]
  | .daa rd => [ofNibbles 0x0 0xF 0x0 rd]
  | .das rd => [ofNibbles 0x1 0xF 0x0 rd]
  | .mulxuB_rs_rd rs rd => [ofNibbles 0x5 0x0 rs rd]
  | .mulxuW_rs_erd rs erd => [ofNibbles 0x5 0x2 rs (reg0 erd)]
  | .divxuB_rs_rd rs rd => [ofNibbles 0x5 0x1 rs rd]
  | .divxuW_rs_erd rs erd => [ofNibbles 0x5 0x3 rs (reg0 erd)]
  | .divxsB_rs_rd rs rd => [ofNibbles 0x0 0x1 0xD 0x0, ofNibbles 0x5 0x1 rs rd]
  | .divxsW_rs_erd rs erd => [ofNibbles 0x0 0x1 0xD 0x0, ofNibbles 0x5 0x3 rs (reg0 erd)]
  | .mulxsB_rs_rd rs rd => [ofNibbles 0x0 0x1 0xC 0x0, ofNibbles 0x5 0x0 rs rd]
  | .mulxsW_rs_erd rs erd => [ofNibbles 0x0 0x1 0xC 0x0, ofNibbles 0x5 0x2 rs (reg0 erd)]
  | .incB rd => [ofNibbles 0x0 0xA 0x0 rd]
  | .incW_1 rd => [ofNibbles 0x0 0xB 0x5 rd]
  | .incW_2 rd => [ofNibbles 0x0 0xB 0xD rd]
  | .incL_1 erd => [ofNibbles 0x0 0xB 0x7 (reg0 erd)]
  | .incL_2 erd => [ofNibbles 0x0 0xB 0xF (reg0 erd)]
  | .decB rd => [ofNibbles 0x1 0xA 0x0 rd]
  | .decW_1 rd => [ofNibbles 0x1 0xB 0x5 rd]
  | .decW_2 rd => [ofNibbles 0x1 0xB 0xD rd]
  | .decL_1 erd => [ofNibbles 0x1 0xB 0x7 (reg0 erd)]
  | .decL_2 erd => [ofNibbles 0x1 0xB 0xF (reg0 erd)]
  | .extuW rd => [ofNibbles 0x1 0x7 0x5 rd]
  | .extuL erd => [ofNibbles 0x1 0x7 0x7 (reg0 erd)]
  | .extsW rd => [ofNibbles 0x1 0x7 0xD rd]
  | .extsL erd => [ofNibbles 0x1 0x7 0xF (reg0 erd)]
  | .andB_imm_rd imm rd => [ofNibbles 0xE rd (hiN imm) (loN imm)]
  | .andB_rs_rd rs rd => [ofNibbles 0x1 0x6 rs rd]
  | .andW_imm_rd imm rd => [ofNibbles 0x7 0x9 0x6 rd, imm]
  | .andW_rs_rd rs rd => [ofNibbles 0x6 0x6 rs rd]
  | .andL_imm_erd imm erd => [ofNibbles 0x7 0xA 0x6 (reg0 erd), hi16 imm, lo16 imm]
  | .andL_ers_erd ers erd => [ofNibbles 0x0 0x1 0xF 0x0, ofNibbles 0x6 0x6 (reg0 ers) (reg0 erd)]
  | .orB_imm_rd imm rd => [ofNibbles 0xC rd (hiN imm) (loN imm)]
  | .orB_rs_rd rs rd => [ofNibbles 0x1 0x4 rs rd]
  | .orW_imm_rd imm rd => [ofNibbles 0x7 0x9 0x4 rd, imm]
  | .orW_rs_rd rs rd => [ofNibbles 0x6 0x4 rs rd]
  | .orL_imm_erd imm erd => [ofNibbles 0x7 0xA 0x4 (reg0 erd), hi16 imm, lo16 imm]
  | .orL_ers_erd ers erd => [ofNibbles 0x0 0x1 0xF 0x0, ofNibbles 0x6 0x4 (reg0 ers) (reg0 erd)]
  | .xorB_imm_rd imm rd => [ofNibbles 0xD rd (hiN imm) (loN imm)]
  | .xorB_rs_rd rs rd => [ofNibbles 0x1 0x5 rs rd]
  | .xorW_imm_rd imm rd => [ofNibbles 0x7 0x9 0x5 rd, imm]
  | .xorW_rs_rd rs rd => [ofNibbles 0x6 0x5 rs rd]
  | .xorL_imm_erd imm erd => [ofNibbles 0x7 0xA 0x5 (reg0 erd), hi16 imm, lo16 imm]
  | .xorL_ers_erd ers erd => [ofNibbles 0x0 0x1 0xF 0x0, ofNibbles 0x6 0x5 (reg0 ers) (reg0 erd)]
  | .notB rd => [ofNibbles 0x1 0x7 0x0 rd]
  | .notW rd => [ofNibbles 0x1 0x7 0x1 rd]
  | .notL erd => [ofNibbles 0x1 0x7 0x3 (reg0 erd)]
  | .shalB rd => [ofNibbles 0x1 0x0 0x8 rd]
  | .shalW rd => [ofNibbles 0x1 0x0 0x9 rd]
  | .shalL erd => [ofNibbles 0x1 0x0 0xB (reg0 erd)]
  | .sharB rd => [ofNibbles 0x1 0x1 0x8 rd]
  | .sharW rd => [ofNibbles 0x1 0x1 0x9 rd]
  | .sharL erd => [ofNibbles 0x1 0x1 0xB (reg0 erd)]
  | .shllB rd => [ofNibbles 0x1 0x0 0x0 rd]
  | .shllW rd => [ofNibbles 0x1 0x0 0x1 rd]
  | .shllL erd => [ofNibbles 0x1 0x0 0x3 (reg0 erd)]
  | .shlrB rd => [ofNibbles 0x1 0x1 0x0 rd]
  | .shlrW rd => [ofNibbles 0x1 0x1 0x1 rd]
  | .shlrL erd => [ofNibbles 0x1 0x1 0x3 (reg0 erd)]
  | .rotlB rd => [ofNibbles 0x1 0x2 0x8 rd]
  | .rotlW rd => [ofNibbles 0x1 0x2 0x9 rd]
  | .rotlL erd => [ofNibbles 0x1 0x2 0xB (reg0 erd)]
  | .rotrB rd => [ofNibbles 0x1 0x3 0x8 rd]
  | .rotrW rd => [ofNibbles 0x1 0x3 0x9 rd]
  | .rotrL erd => [ofNibbles 0x1 0x3 0xB (reg0 erd)]
  | .rotxlB rd => [ofNibbles 0x1 0x2 0x0 rd]
  | .rotxlW rd => [ofNibbles 0x1 0x2 0x1 rd]
  | .rotxlL erd => [ofNibbles 0x1 0x2 0x3 (reg0 erd)]
  | .rotxrB rd => [ofNibbles 0x1 0x3 0x0 rd]
  | .rotxrW rd => [ofNibbles 0x1 0x3 0x1 rd]
  | .rotxrL erd => [ofNibbles 0x1 0x3 0x3 (reg0 erd)]
  | .bset_imm_rd bit rd => [ofNibbles 0x7 0x0 (reg0 bit) rd]
  | .bset_imm_ind bit erd => [ofNibbles 0x7 0xD (reg0 erd) 0x0, ofNibbles 0x7 0x0 (reg0 bit) 0x0]
  | .bset_imm_aa8 bit aa => [ofNibbles 0x7 0xF (hiN aa) (loN aa), ofNibbles 0x7 0x0 (reg0 bit) 0x0]
  | .bset_rn_rd rn rd => [ofNibbles 0x6 0x0 rn rd]
  | .bset_rn_ind rn erd => [ofNibbles 0x7 0xD (reg0 erd) 0x0, ofNibbles 0x6 0x0 rn 0x0]
  | .bset_rn_aa8 rn aa => [ofNibbles 0x7 0xF (hiN aa) (loN aa), ofNibbles 0x6 0x0 rn 0x0]
  | .bclr_imm_rd bit rd => [ofNibbles 0x7 0x2 (reg0 bit) rd]
  | .bclr_imm_ind bit erd => [ofNibbles 0x7 0xD (reg0 erd) 0x0, ofNibbles 0x7 0x2 (reg0 bit) 0x0]
  | .bclr_imm_aa8 bit aa => [ofNibbles 0x7 0xF (hiN aa) (loN aa), ofNibbles 0x7 0x2 (reg0 bit) 0x0]
  | .bclr_rn_rd rn rd => [ofNibbles 0x6 0x2 rn rd]
  | .bclr_rn_ind rn erd => [ofNibbles 0x7 0xD (reg0 erd) 0x0, ofNibbles 0x6 0x2 rn 0x0]
  | .bclr_rn_aa8 rn aa => [ofNibbles 0x7 0xF (hiN aa) (loN aa), ofNibbles 0x6 0x2 rn 0x0]
  | .bnot_imm_rd bit rd => [ofNibbles 0x7 0x1 (reg0 bit) rd]
  | .bnot_imm_ind bit erd => [ofNibbles 0x7 0xD (reg0 erd) 0x0, ofNibbles 0x7 0x1 (reg0 bit) 0x0]
  | .bnot_imm_aa8 bit aa => [ofNibbles 0x7 0xF (hiN aa) (loN aa), ofNibbles 0x7 0x1 (reg0 bit) 0x0]
  | .bnot_rn_rd rn rd => [ofNibbles 0x6 0x1 rn rd]
  | .bnot_rn_ind rn erd => [ofNibbles 0x7 0xD (reg0 erd) 0x0, ofNibbles 0x6 0x1 rn 0x0]
  | .bnot_rn_aa8 rn aa => [ofNibbles 0x7 0xF (hiN aa) (loN aa), ofNibbles 0x6 0x1 rn 0x0]
  | .btst_imm_rd bit rd => [ofNibbles 0x7 0x3 (reg0 bit) rd]
  | .btst_imm_ind bit erd => [ofNibbles 0x7 0xC (reg0 erd) 0x0, ofNibbles 0x7 0x3 (reg0 bit) 0x0]
  | .btst_imm_aa8 bit aa => [ofNibbles 0x7 0xE (hiN aa) (loN aa), ofNibbles 0x7 0x3 (reg0 bit) 0x0]
  | .btst_rn_rd rn rd => [ofNibbles 0x6 0x3 rn rd]
  | .btst_rn_ind rn erd => [ofNibbles 0x7 0xC (reg0 erd) 0x0, ofNibbles 0x6 0x3 rn 0x0]
  | .btst_rn_aa8 rn aa => [ofNibbles 0x7 0xE (hiN aa) (loN aa), ofNibbles 0x6 0x3 rn 0x0]
  | .band_imm_rd bit rd => [ofNibbles 0x7 0x6 (reg0 bit) rd]
  | .band_imm_ind bit erd => [ofNibbles 0x7 0xC (reg0 erd) 0x0, ofNibbles 0x7 0x6 (reg0 bit) 0x0]
  | .band_imm_aa8 bit aa => [ofNibbles 0x7 0xE (hiN aa) (loN aa), ofNibbles 0x7 0x6 (reg0 bit) 0x0]
  | .biand_imm_rd bit rd => [ofNibbles 0x7 0x6 (reg1 bit) rd]
  | .biand_imm_ind bit erd => [ofNibbles 0x7 0xC (reg0 erd) 0x0, ofNibbles 0x7 0x6 (reg1 bit) 0x0]
  | .biand_imm_aa8 bit aa => [ofNibbles 0x7 0xE (hiN aa) (loN aa), ofNibbles 0x7 0x6 (reg1 bit) 0x0]
  | .bor_imm_rd bit rd => [ofNibbles 0x7 0x4 (reg0 bit) rd]
  | .bor_imm_ind bit erd => [ofNibbles 0x7 0xC (reg0 erd) 0x0, ofNibbles 0x7 0x4 (reg0 bit) 0x0]
  | .bor_imm_aa8 bit aa => [ofNibbles 0x7 0xE (hiN aa) (loN aa), ofNibbles 0x7 0x4 (reg0 bit) 0x0]
  | .bior_imm_rd bit rd => [ofNibbles 0x7 0x4 (reg1 bit) rd]
  | .bior_imm_ind bit erd => [ofNibbles 0x7 0xC (reg0 erd) 0x0, ofNibbles 0x7 0x4 (reg1 bit) 0x0]
  | .bior_imm_aa8 bit aa => [ofNibbles 0x7 0xE (hiN aa) (loN aa), ofNibbles 0x7 0x4 (reg1 bit) 0x0]
  | .bxor_imm_rd bit rd => [ofNibbles 0x7 0x5 (reg0 bit) rd]
  | .bxor_imm_ind bit erd => [ofNibbles 0x7 0xC (reg0 erd) 0x0, ofNibbles 0x7 0x5 (reg0 bit) 0x0]
  | .bxor_imm_aa8 bit aa => [ofNibbles 0x7 0xE (hiN aa) (loN aa), ofNibbles 0x7 0x5 (reg0 bit) 0x0]
  | .bixor_imm_rd bit rd => [ofNibbles 0x7 0x5 (reg1 bit) rd]
  | .bixor_imm_ind bit erd => [ofNibbles 0x7 0xC (reg0 erd) 0x0, ofNibbles 0x7 0x5 (reg1 bit) 0x0]
  | .bixor_imm_aa8 bit aa => [ofNibbles 0x7 0xE (hiN aa) (loN aa), ofNibbles 0x7 0x5 (reg1 bit) 0x0]
  | .bld_imm_rd bit rd => [ofNibbles 0x7 0x7 (reg0 bit) rd]
  | .bld_imm_ind bit erd => [ofNibbles 0x7 0xC (reg0 erd) 0x0, ofNibbles 0x7 0x7 (reg0 bit) 0x0]
  | .bld_imm_aa8 bit aa => [ofNibbles 0x7 0xE (hiN aa) (loN aa), ofNibbles 0x7 0x7 (reg0 bit) 0x0]
  | .bild_imm_rd bit rd => [ofNibbles 0x7 0x7 (reg1 bit) rd]
  | .bild_imm_ind bit erd => [ofNibbles 0x7 0xC (reg0 erd) 0x0, ofNibbles 0x7 0x7 (reg1 bit) 0x0]
  | .bild_imm_aa8 bit aa => [ofNibbles 0x7 0xE (hiN aa) (loN aa), ofNibbles 0x7 0x7 (reg1 bit) 0x0]
  | .bst_imm_rd bit rd => [ofNibbles 0x6 0x7 (reg0 bit) rd]
  | .bst_imm_ind bit erd => [ofNibbles 0x7 0xD (reg0 erd) 0x0, ofNibbles 0x6 0x7 (reg0 bit) 0x0]
  | .bst_imm_aa8 bit aa => [ofNibbles 0x7 0xF (hiN aa) (loN aa), ofNibbles 0x6 0x7 (reg0 bit) 0x0]
  | .bist_imm_rd bit rd => [ofNibbles 0x6 0x7 (reg1 bit) rd]
  | .bist_imm_ind bit erd => [ofNibbles 0x7 0xD (reg0 erd) 0x0, ofNibbles 0x6 0x7 (reg1 bit) 0x0]
  | .bist_imm_aa8 bit aa => [ofNibbles 0x7 0xF (hiN aa) (loN aa), ofNibbles 0x6 0x7 (reg1 bit) 0x0]
  | .bra_d8 disp => [ofNibbles 0x4 0x0 (hiN disp) (loN disp)]
  | .brn_d8 disp => [ofNibbles 0x4 0x1 (hiN disp) (loN disp)]
  | .bhi_d8 disp => [ofNibbles 0x4 0x2 (hiN disp) (loN disp)]
  | .bls_d8 disp => [ofNibbles 0x4 0x3 (hiN disp) (loN disp)]
  | .bcc_d8 disp => [ofNibbles 0x4 0x4 (hiN disp) (loN disp)]
  | .bcs_d8 disp => [ofNibbles 0x4 0x5 (hiN disp) (loN disp)]
  | .bne_d8 disp => [ofNibbles 0x4 0x6 (hiN disp) (loN disp)]
  | .beq_d8 disp => [ofNibbles 0x4 0x7 (hiN disp) (loN disp)]
  | .bvc_d8 disp => [ofNibbles 0x4 0x8 (hiN disp) (loN disp)]
  | .bvs_d8 disp => [ofNibbles 0x4 0x9 (hiN disp) (loN disp)]
  | .bpl_d8 disp => [ofNibbles 0x4 0xA (hiN disp) (loN disp)]
  | .bmi_d8 disp => [ofNibbles 0x4 0xB (hiN disp) (loN disp)]
  | .bge_d8 disp => [ofNibbles 0x4 0xC (hiN disp) (loN disp)]
  | .blt_d8 disp => [ofNibbles 0x4 0xD (hiN disp) (loN disp)]
  | .bgt_d8 disp => [ofNibbles 0x4 0xE (hiN disp) (loN disp)]
  | .ble_d8 disp => [ofNibbles 0x4 0xF (hiN disp) (loN disp)]
  | .bra_d16 disp => [ofNibbles 0x5 0x8 0x0 0x0, disp]
  | .brn_d16 disp => [ofNibbles 0x5 0x8 0x1 0x0, disp]
  | .bhi_d16 disp => [ofNibbles 0x5 0x8 0x2 0x0, disp]
  | .bls_d16 disp => [ofNibbles 0x5 0x8 0x3 0x0, disp]
  | .bcc_d16 disp => [ofNibbles 0x5 0x8 0x4 0x0, disp]
  | .bcs_d16 disp => [ofNibbles 0x5 0x8 0x5 0x0, disp]
  | .bne_d16 disp => [ofNibbles 0x5 0x8 0x6 0x0, disp]
  | .beq_d16 disp => [ofNibbles 0x5 0x8 0x7 0x0, disp]
  | .bvc_d16 disp => [ofNibbles 0x5 0x8 0x8 0x0, disp]
  | .bvs_d16 disp => [ofNibbles 0x5 0x8 0x9 0x0, disp]
  | .bpl_d16 disp => [ofNibbles 0x5 0x8 0xA 0x0, disp]
  | .bmi_d16 disp => [ofNibbles 0x5 0x8 0xB 0x0, disp]
  | .bge_d16 disp => [ofNibbles 0x5 0x8 0xC 0x0, disp]
  | .blt_d16 disp => [ofNibbles 0x5 0x8 0xD 0x0, disp]
  | .bgt_d16 disp => [ofNibbles 0x5 0x8 0xE 0x0, disp]
  | .ble_d16 disp => [ofNibbles 0x5 0x8 0xF 0x0, disp]
  | .jmp_ind ern => [ofNibbles 0x5 0x9 (reg0 ern) 0x0]
  | .jmp_aa24 aa => [ofNibbles 0x5 0xA (hiN (top8 aa)) (loN (top8 aa)), lo16 aa]
  | .jmp_memInd aa => [ofNibbles 0x5 0xB (hiN aa) (loN aa)]
  | .jsr_ind ern => [ofNibbles 0x5 0xD (reg0 ern) 0x0]
  | .jsr_aa24 aa => [ofNibbles 0x5 0xE (hiN (top8 aa)) (loN (top8 aa)), lo16 aa]
  | .jsr_memInd aa => [ofNibbles 0x5 0xF (hiN aa) (loN aa)]
  | .bsr_d8 disp => [ofNibbles 0x5 0x5 (hiN disp) (loN disp)]
  | .bsr_d16 disp => [ofNibbles 0x5 0xC 0x0 0x0, disp]
  | .rts => [ofNibbles 0x5 0x4 0x7 0x0]
  | .rte => [ofNibbles 0x5 0x6 0x7 0x0]
  | .andc imm => [ofNibbles 0x0 0x6 (hiN imm) (loN imm)]
  | .orc imm => [ofNibbles 0x0 0x4 (hiN imm) (loN imm)]
  | .xorc imm => [ofNibbles 0x0 0x5 (hiN imm) (loN imm)]
  | .ldc_imm imm => [ofNibbles 0x0 0x7 (hiN imm) (loN imm)]
  | .ldc_rs rs => [ofNibbles 0x0 0x3 0x0 rs]
  | .ldc_ind ers => [ofNibbles 0x0 0x1 0x4 0x0, ofNibbles 0x6 0x9 (reg0 ers) 0x0]
  | .ldc_d16 disp ers => [ofNibbles 0x0 0x1 0x4 0x0, ofNibbles 0x6 0xF (reg0 ers) 0x0, disp]
  | .ldc_d24 disp ers => [ofNibbles 0x0 0x1 0x4 0x0, ofNibbles 0x7 0x8 (reg0 ers) 0x0, ofNibbles 0x6 0xB 0x2 0x0, hi16 disp, lo16 disp]
  | .ldc_postInc ers => [ofNibbles 0x0 0x1 0x4 0x0, ofNibbles 0x6 0xD (reg0 ers) 0x0]
  | .ldc_aa16 aa => [ofNibbles 0x0 0x1 0x4 0x0, ofNibbles 0x6 0xB 0x0 0x0, aa]
  | .ldc_aa24 aa => [ofNibbles 0x0 0x1 0x4 0x0, ofNibbles 0x6 0xB 0x2 0x0, hi16 aa, lo16 aa]
  | .stc_rd rd => [ofNibbles 0x0 0x2 0x0 rd]
  | .stc_ind erd => [ofNibbles 0x0 0x1 0x4 0x0, ofNibbles 0x6 0x9 (reg1 erd) 0x0]
  | .stc_d16 disp erd => [ofNibbles 0x0 0x1 0x4 0x0, ofNibbles 0x6 0xF (reg1 erd) 0x0, disp]
  | .stc_d24 disp erd => [ofNibbles 0x0 0x1 0x4 0x0, ofNibbles 0x7 0x8 (reg0 erd) 0x0, ofNibbles 0x6 0xB 0xA 0x0, hi16 disp, lo16 disp]
  | .stc_preDec erd => [ofNibbles 0x0 0x1 0x4 0x0, ofNibbles 0x6 0xD (reg1 erd) 0x0]
  | .stc_aa16 aa => [ofNibbles 0x0 0x1 0x4 0x0, ofNibbles 0x6 0xB 0x8 0x0, aa]
  | .stc_aa24 aa => [ofNibbles 0x0 0x1 0x4 0x0, ofNibbles 0x6 0xB 0xA 0x0, hi16 aa, lo16 aa]
  | .nop => [ofNibbles 0x0 0x0 0x0 0x0]
  | .sleep => [ofNibbles 0x0 0x1 0x8 0x0]
  | .trapa vec => [ofNibbles 0x5 0x7 (vec0 vec) 0x0]
  | .eepmovB => [ofNibbles 0x7 0xB 0x5 0xC, ofNibbles 0x5 0x9 0x8 0xF]
  | .eepmovW => [ofNibbles 0x7 0xB 0xD 0x4, ofNibbles 0x5 0x9 0x8 0xF]

/-! ## Reading a number of the opcode table -/

/-- The most words an instruction has (R100). -/
def maxWords : Nat := 5

/-- The words of the instruction whose bits, as one number of `nbits` bits, are `w`: the number has the
first byte of the instruction in its highest bits, as R103 and spec/opcode_table.json number them, and
every bit the instruction has beyond `nbits` is 0. -/
def tableWords (nbits w : Nat) : List Word :=
  (List.range maxWords).map fun j => BitVec.ofNat 16 (w * 2 ^ (16 * maxWords) / 2 ^ nbits / 2 ^ (16 * (maxWords - 1 - j)))

/-- The same for a number whose low 16 bits are the first word, the next 16 the second, and so on. -/
def lowFirstWords (w : Nat) : List Word :=
  (List.range maxWords).map fun j => BitVec.ofNat 16 (w / 2 ^ (16 * j))

/-- The instruction that these words begin with, if it has at least `nbits` bits. -/
def wholeInstr (nbits : Nat) (ws : List Word) : Option Instr :=
  match decode ws with
  | .instr i n => if nbits ≤ 16 * n then some i else none
  | .needMore => none
  | .undefinedOpcode => none

/-- The words that a number given for a row of the opcode table stands for. The table numbers an
instruction as one number, its last byte lowest (R103); a number that is no instruction of `nbits` bits
when read so, and is one with the first word lowest, is read the second way (assumption 12). -/
def wordsOfTable (nbits w : Nat) : List Word :=
  if (wholeInstr nbits (tableWords nbits w)).isSome then tableWords nbits w
  else if (wholeInstr nbits (lowFirstWords w)).isSome then lowFirstWords w
  else tableWords nbits w

/-- The instruction the decoder reads from an instruction of the opcode table whose bits are `w`. -/
def decodeTableWord (nbits w : Nat) : Option Instr := wholeInstr nbits (wordsOfTable nbits w)

end

end Sys2Proof
end

