-- ==== Sys2Proof/Machine/Fetch.lean ====
section
/-! DEFINITION. Fetching: the reset vector (70_reset_and_hazards.md rule R353), the words of one instruction
and what they decode to (30_encoding.md rules R101, R102, R114), the bus tick that ends a step (R355), and
placing an instruction where the next fetch finds it. -/

namespace Sys2Proof.Machine

noncomputable section

/-- `Fetch16()` (R101): a word read at PC bits 15:0, then PC advances by 2 modulo 2^24. -/
def State.fetch16 (s : State) : Word × State :=
  ((s.read16 s.pc16).1, (s.read16 s.pc16).2.setPc ((s.read16 s.pc16).2.pc + 2))

/-- The first act of a step after reset (R353): PC becomes the word at address 0. -/
def State.loadVector (s : State) : State :=
  if s.initialized then s
  else { (s.read16 0).2.setPc ((s.read16 0).1.setWidth 32) with initialized := true }

/-- What fetching found: the instruction, or none where no row matches (R114); the words read, in order; and
the state after these reads. -/
structure Fetched where
  instr : Option Instr
  words : List Word
  state : State

/-- Fetch words until they are an instruction or none can be (R102); at most `fuel` more words. -/
def State.fetchFrom : Nat → List Word → State → Fetched
  | 0, ws, s => ⟨none, ws, s⟩
  | fuel + 1, ws, s =>
    match decode (ws ++ [s.fetch16.1]) with
    | .instr i _ => ⟨some i, ws ++ [s.fetch16.1], s.fetch16.2⟩
    | .undefinedOpcode => ⟨none, ws ++ [s.fetch16.1], s.fetch16.2⟩
    | .needMore => State.fetchFrom fuel (ws ++ [s.fetch16.1]) s.fetch16.2

/-- Fetch the instruction at PC (R100: no instruction has more than five words). -/
def State.fetchInstr (s : State) : Fetched := State.fetchFrom maxWords [] s

/-- The first word read: what an undefined opcode reports (R301). -/
def Fetched.firstWord (f : Fetched) : Word := f.words.headD 0

/-- The tick that ends every step that has a next state (R355). -/
def tick (o : Host.Outcome State Fault Refusal) : Host.Outcome State Fault Refusal :=
  match o with
  | .next t => .next t.busCycle
  | .fault r => .fault r
  | .refused r => .refused r

/-- What a fetched word sequence does (R354): a matched row executes its rule, no row raises the event. -/
def runFetched (run : Instr → State → Host.Outcome State Fault Refusal) (start : Long) (f : Fetched) :
    Host.Outcome State Fault Refusal :=
  match f.instr with
  | some i => run i f.state
  | none => f.state.raiseUndefinedOpcode start f.firstWord

/-! ## Placing an instruction where the next step fetches it (assumption 3) -/

/-- Put a byte into the ROM image or the RAM, as a load from outside does; elsewhere nothing is stored. -/
def State.poke (s : State) (a : Word) (v : Byte) : State :=
  match decodeAddr a with
  | .rom i => { s with rom := s.rom.write i v }
  | .ram i => { s with ram := s.ram.write (ramBase + i) v }
  | .flash _ => s
  | .ssu _ => s
  | .openBus => s

/-- Put words at ascending addresses, each high byte first (R75). -/
def State.pokeWords : State → Word → List Word → State
  | s, _, [] => s
  | s, a, w :: ws =>
    State.pokeWords ((s.poke a (w.extractLsb' 8 8)).poke (a + 1) (w.extractLsb' 0 8)) (a + 2) ws

/-- Whether an address is one of memory, ROM or RAM. -/
def isMemory (a : Word) : Bool :=
  match decodeAddr a with
  | .rom _ => true
  | .ram _ => true
  | .flash _ => false
  | .ssu _ => false
  | .openBus => false

/-- The addresses of the longest instruction at `a`. -/
def instrBytes (a : Word) : List Word := (List.range (2 * maxWords)).map fun k => a + BitVec.ofNat 16 k

/-- Whether an instruction at `a` lies in memory. -/
def holdsInstr (a : Word) : Bool := (instrBytes a).all isMemory

/-- Where an instruction goes when what PC or the vector names cannot hold it: the address after the 256
bytes that `@@aa:8` reaches (R86). -/
def spareAddr : Word := 0x0100

/-- Place the words of an instruction where the next step fetches them. Initialized, that is at PC, which
moves to `spareAddr` only if the bytes at PC are not memory; not initialized, it is where the reset vector
points, and the vector is set to `spareAddr` only if the bytes it points at are not memory or cover the
vector. -/
def State.placeWords (s : State) (ws : List Word) : State :=
  if s.initialized then
    if holdsInstr (evenAddr s.pc16) then s.pokeWords (evenAddr s.pc16) ws
    else (s.setPc (spareAddr.setWidth 32)).pokeWords spareAddr ws
  else
    let target := evenAddr (s.read16 0).1
    if holdsInstr target && !(instrBytes target).contains 0 then s.pokeWords target ws
    else (s.pokeWords 0 [spareAddr]).pokeWords spareAddr ws

end

end Sys2Proof.Machine
end

