-- ==== Sys2Proof/Machine/Step.lean ====
section
/-! DEFINITION. The step relation (70_reset_and_hazards.md rule R354), and the host's way to place an
instruction where the next step fetches it. -/

namespace Sys2Proof.Machine

noncomputable section

/-- `step()` (R354): the vector load if it is the first step, the fetch, the instruction or the event, and
one bus tick. -/
def step (s : State) : Host.Outcome State Fault Refusal :=
  tick (runFetched exec s.loadVector.pc s.loadVector.fetchInstr)

/-- `s` with the instruction whose bits the opcode table numbers `w` placed where `step` fetches next
(assumptions 3 and 12). -/
def State.withFetchWord (s : State) (nbits w : Nat) : State :=
  s.placeWords (wordsOfTable nbits w)

end

end Sys2Proof.Machine
end

