-- ==== Sys2Proof/Machine/HostOps.lean ====
section
/-! DEFINITION. What the host can do between steps (00_scope.md rules R10, R11): `reset()`
(70_reset_and_hazards.md rule R350), installing the ROM image (R362), and the debug accessors
(60_exceptions.md rule R336). None is part of `step`. -/

namespace Sys2Proof.Machine

/-- `reset()` at any time (R350): the ROM image and the parameters stay. The count of free values is the
model's own and goes on, so that no free value is taken twice (assumption 2). -/
def State.hostReset (s : State) : State :=
  { State.resetWith s.params s.rom with freeIndex := s.freeIndex }

/-- A ROM image: exactly 49,152 bytes, by type (R33, R362; 93_implementation_defined.md U19). -/
abbrev RomImage := Vector Byte 49152

/-- A raw binary as a ROM image; one of any other length is refused (R362, U19). -/
def RomImage.ofBytes (bytes : List Byte) : Option RomImage :=
  if h : bytes.length = 49152 then some ⟨bytes.toArray, h⟩ else none

/-- The canonical memory that holds a list of bytes, the first at address `a`. -/
def Memory.ofBytes : Nat → List Byte → Memory
  | _, [] => []
  | a, v :: bytes =>
    if v = Memory.blank then Memory.ofBytes (a + 1) bytes else (a, v) :: Memory.ofBytes (a + 1) bytes

/-- Install a ROM image (R33, R362). -/
def State.installRom (s : State) (image : RomImage) : State :=
  { s with rom := Memory.ofBytes 0 image.toList }

/-- The names of the debug accessors (R336). -/
inductive RegName where
  | er (n : Reg3)
  | pc
  | ccr
  deriving DecidableEq, Repr

/-- `read_register(name)` (R336). -/
def State.readRegister (s : State) : RegName → Long
  | .er n => s.reg n
  | .pc => s.pc
  | .ccr => s.ccr.setWidth 32

/-- `write_register(name, value)` (R336): a write of PC reduces modulo 2^24; CCR takes the low 8 bits. -/
def State.writeRegister (s : State) (name : RegName) (v : Long) : State :=
  match name with
  | .er n => s.setReg n v
  | .pc => s.setPc v
  | .ccr => { s with ccr := v.setWidth 8 }

/-- `read_memory(addr)` (R336): the bus read, side effect and all, without a bus tick. -/
def State.readMemory (s : State) (a : Word) : Byte × State := s.read8 a

/-- `write_memory(addr, val)` (R336): the bus write, without a bus tick. -/
def State.writeMemory (s : State) (a : Word) (v : Byte) : State := s.write8 a v

end Sys2Proof.Machine
end

