-- ==== Sys2Proof/Safety.lean ====
section
/-! DEFINITION. The terms in which the claims about the machine are made: the invariant of every state, and what an
instruction leaves as it was (10_state.md rules R21, R30, R46; 20_memory.md rules R61, R77). -/

namespace Sys2Proof.Machine

/-! ## The invariant -/

/-- What holds of every state that a run reaches (R25, R46), with the canonical form of the two memories. -/
structure Inv (s : State) : Prop where
  pc : s.pc.toNat < 2 ^ 24
  bitCounter : s.ssu.bitCounter ≤ 7
  clockCounter : s.ssu.clockCounter < 256
  status : s.ssu.sssr &&& 0xB0 = 0
  rom : s.rom.wf 0x0000 0xBFFF = true
  ram : s.ram.wf 0xF780 0xFF7F = true

/-! ## Addresses -/

/-- RAM (R35, R61). -/
abbrev InRam (a : Word) : Prop := 0xF780 ≤ a.toNat ∧ a.toNat ≤ 0xFF7F

/-- The ROM image (R33, R61). -/
abbrev InRom (a : Word) : Prop := a.toNat ≤ 0xBFFF

/-- The seven SSU registers (R36, R61). -/
abbrev InSsu (a : Word) : Prop :=
  a = 0xF0E0 ∨ a = 0xF0E1 ∨ a = 0xF0E2 ∨ a = 0xF0E3 ∨ a = 0xF0E4 ∨ a = 0xF0E9 ∨ a = 0xF0EB

/-- The five flash-control registers (R34, R61). -/
abbrev InFlash (a : Word) : Prop :=
  a = 0xF020 ∨ a = 0xF021 ∨ a = 0xF022 ∨ a = 0xF023 ∨ a = 0xF02B

/-! ## What changes in the general registers -/

/-- No general register changes. -/
def NoRegister (s t : State) : Prop := ∀ n, t.reg n = s.reg n

/-- Byte register `rd` becomes `v`; the other fifteen byte views and the eight upper halves are kept
(R21). -/
def OnlyByte (s t : State) (rd : Reg4) (v : Byte) : Prop :=
  t.r8 rd = v ∧ (∀ r, r ≠ rd → t.r8 r = s.r8 r)
    ∧ ∀ n, (t.reg n).extractLsb' 16 16 = (s.reg n).extractLsb' 16 16

/-- Word register `rd` becomes `v`; the other fifteen word views are kept (R21). -/
def OnlyWord (s t : State) (rd : Reg4) (v : Word) : Prop :=
  t.r16 rd = v ∧ ∀ r, r ≠ rd → t.r16 r = s.r16 r

/-- `ERn` becomes `v`; the other seven registers are kept (R21). -/
def OnlyLong (s t : State) (n : Reg3) (v : Long) : Prop :=
  t.reg n = v ∧ ∀ m, m ≠ n → t.reg m = s.reg m

/-! ## What changes in CCR -/

/-- H, N, Z, V and C are the given values; I, UI and U are kept. -/
structure FlagsAre (s t : State) (h n z v c : Bool) : Prop where
  h : t.flag .h = h
  n : t.flag .n = n
  z : t.flag .z = z
  v : t.flag .v = v
  c : t.flag .c = c
  i : t.flag .i = s.flag .i
  ui : t.flag .ui = s.flag .ui
  u : t.flag .u = s.flag .u

/-- CCR is kept whole. -/
def SameFlags (s t : State) : Prop := t.ccr = s.ccr

/-- The flags of a value moved or of a logical result (R147, R211): N and Z from it, V cleared. -/
def MoveFlags {w : Nat} (s t : State) (v : BitVec w) : Prop :=
  FlagsAre s t (s.flag .h) v.msb (decide (v = 0)) false (s.flag .c)

/-- The flags of `a + b + cin` at width `w` (R9): H is the carry out of bit `w - 5`, C out of the top bit,
V says that the signed sum does not fit. -/
def SumFlags {w : Nat} (s t : State) (a b : BitVec w) (cin z : Bool) : Prop :=
  FlagsAre s t
    (decide (2 ^ (w - 4) ≤ a.toNat % 2 ^ (w - 4) + b.toNat % 2 ^ (w - 4) + cin.toNat))
    (BitVec.ofNat w (a.toNat + b.toNat + cin.toNat)).msb
    z
    (decide (a.toInt + b.toInt + cin.toNat ≠ (BitVec.ofNat w (a.toNat + b.toNat + cin.toNat)).toInt))
    (decide (2 ^ w ≤ a.toNat + b.toNat + cin.toNat))

/-- The flags of `a - b - bin` at width `w` (R9): H is the borrow into bit `w - 4`, C the borrow of the whole, V
says that the signed difference does not fit. -/
def DifferenceFlags {w : Nat} (s t : State) (a b : BitVec w) (bin z : Bool) : Prop :=
  FlagsAre s t
    (decide (a.toNat % 2 ^ (w - 4) < b.toNat % 2 ^ (w - 4) + bin.toNat))
    (BitVec.ofInt w (a.toNat - b.toNat - bin.toNat)).msb
    z
    (decide (a.toInt - b.toInt - bin.toNat ≠ (BitVec.ofInt w (a.toNat - b.toNat - bin.toNat)).toInt))
    (decide (a.toNat < b.toNat + bin.toNat))

/-! ## What changes outside the CPU's registers -/

/-- The SSU, the memories, `initialized` and the parameters are kept, and every address reads as before. -/
structure SameWorld (s t : State) : Prop where
  initialized : t.initialized = s.initialized
  rom : t.rom = s.rom
  ram : t.ram = s.ram
  ssu : t.ssu = s.ssu
  params : t.params = s.params
  bytes : ∀ a, (t.read8 a).1 = (s.read8 a).1

/-- As `SameWorld`, but where `touched` says that SSRDR was read, its RDRF bit in SSSR is cleared (R325). -/
structure ReadWorld (s t : State) (touched : Prop) : Prop where
  initialized : t.initialized = s.initialized
  rom : t.rom = s.rom
  ram : t.ram = s.ram
  untouched : ¬ touched → t.ssu = s.ssu
  cleared : touched → t.ssu = { s.ssu with sssr := s.ssu.sssr &&& 0xFD }
  params : t.params = s.params
  bytes : ∀ a, (touched → a ≠ 0xF0E4) → (t.read8 a).1 = (s.read8 a).1

/-- What storing a byte at an address does to the SSU. -/
def ssuStore (u : Ssu) (c : Word × Byte) : Ssu :=
  match decodeAddr c.1 with
  | .ssu k => u.write k c.2
  | .rom _ => u
  | .flash _ => u
  | .ram _ => u
  | .openBus => u

/-- The listed bytes are stored at their addresses, in order (R66): in RAM they read back; at a ROM, a
flash-control or an open address nothing changes; the SSU takes them as writes of its registers. Every other
address reads as before, except that a write of SSTDR changes SSSR (R326). -/
structure StoreWorld (s t : State) (stored : List (Word × Byte)) : Prop where
  initialized : t.initialized = s.initialized
  rom : t.rom = s.rom
  ssu : t.ssu = stored.foldl ssuStore s.ssu
  params : t.params = s.params
  inRam : ∀ c ∈ stored, InRam c.1 → (t.read8 c.1).1 = c.2
  dropped : ∀ c ∈ stored, ¬ InRam c.1 → ¬ InSsu c.1 → (t.read8 c.1).1 = (s.read8 c.1).1
  outside : ∀ a, (∀ c ∈ stored, c.1 ≠ a) → (a = 0xF0E4 → ∀ c ∈ stored, c.1 ≠ 0xF0EB) →
    (t.read8 a).1 = (s.read8 a).1

/-- The two bytes of a word store at `ea` (R67). -/
def wordBytes (ea v : Word) : List (Word × Byte) :=
  [(evenAddr ea, v.extractLsb' 8 8), (oddAddr ea, v.extractLsb' 0 8)]

/-- The four bytes of a long store at `ea` (R68). -/
def longBytes (ea : Word) (v : Long) : List (Word × Byte) :=
  wordBytes ea (v.extractLsb' 16 16) ++ wordBytes (ea + 2) (v.extractLsb' 0 16)

/-- The word that reading at `ea` gives (R64). -/
def wordAt (s : State) (ea : Word) : Word := (s.read8 (evenAddr ea)).1 ++ (s.read8 (oddAddr ea)).1

/-- The long that reading at `ea` gives (R65). -/
def longAt (s : State) (ea : Word) : Long := wordAt s ea ++ wordAt s (ea + 2)

/-- Whether a word access at `ea` covers SSRDR. -/
abbrev touchesW (ea : Word) : Prop := evenAddr ea = 0xF0E8

/-- Whether a long access at `ea` covers SSRDR. -/
abbrev touchesL (ea : Word) : Prop := touchesW ea ∨ touchesW (ea + 2)

/-! ## An instruction that completes -/

/-- Instruction `i` completes in state `s`, and its next state is as `P` says. PC in `s` is already past the
instruction (R26). -/
def Completes (i : Instr) (s : State) (P : State → Prop) : Prop := ∃ t, exec i s = .next t ∧ P t

/-- Nothing but registers and flags can have changed, and PC stays at the next instruction. -/
def Quiet (s t : State) : Prop := SameWorld s t ∧ t.pc = s.pc

/-- As `Quiet`, after a read that covers SSRDR if `touched` says so. -/
def QuietRead (s t : State) (touched : Prop) : Prop := ReadWorld s t touched ∧ t.pc = s.pc

/-- As `Quiet`, after storing the listed bytes. -/
def QuietStore (s t : State) (stored : List (Word × Byte)) : Prop := StoreWorld s t stored ∧ t.pc = s.pc

/-- A value reduced modulo 2^24 (R27). -/
def wrap24 (x : Long) : Long := BitVec.ofNat 32 (x.toNat % 2 ^ 24)

/-- Whether an instruction writes all of CCR (R30): ANDC, ORC, XORC, LDC and RTE. -/
def writesAllOfCcr : Instr → Bool
  | .andc _ | .orc _ | .xorc _ | .ldc_imm _ | .ldc_rs _ | .ldc_ind _ | .ldc_d16 _ _ | .ldc_d24 _ _
  | .ldc_postInc _ | .ldc_aa16 _ | .ldc_aa24 _ | .rte => true
  | _ => false

/-- Whether an instruction has results that the specification leaves open (R185, R186, R189). -/
def hasOpenResult : Instr → Bool
  | .daa _ | .das _ | .divxuB_rs_rd _ _ | .divxuW_rs_erd _ _ | .divxsB_rs_rd _ _ | .divxsW_rs_erd _ _ => true
  | _ => false

/-- A branch on condition `c`, in its two forms, with all that it changes (R262). -/
def BranchesWhen (short : Byte → Instr) (long : Word → Instr) (c : State → Prop) : Prop :=
  ∀ s : State,
    (∀ d, Completes (short d) s fun t =>
      (c s → t = { s with pc := wrap24 (s.pc + d.signExtend 32) }) ∧ (¬ c s → t = s)) ∧
    ∀ d, Completes (long d) s fun t =>
      (c s → t = { s with pc := wrap24 (s.pc + d.signExtend 32) }) ∧ (¬ c s → t = s)

/-! ## Fetching -/

/-- The words that `n` fetches in a row read (R101). -/
def State.fetchedWords : Nat → State → List Word
  | 0, _ => []
  | n + 1, s => s.fetch16.1 :: State.fetchedWords n s.fetch16.2

/-- The state after `n` fetches in a row (R101). -/
def State.afterFetch : Nat → State → State
  | 0, s => s
  | n + 1, s => State.afterFetch n s.fetch16.2

/-! ## Results that a parameter settles -/

/-- At input `k` the default applies: it is the setting, or a function is passed that lists no value there. -/
def DefaultAt {κ ν : Type} [DecidableEq κ] (o : OpenResult κ ν) (k : κ) : Prop :=
  o = .specDefault ∨ ∃ table, o = .given table ∧ table.lookup k = none

/-- At input `k` a function is passed, and its value there is `v`. -/
def GivenAt {κ ν : Type} [DecidableEq κ] (o : OpenResult κ ν) (k : κ) (v : ν) : Prop :=
  ∃ table, o = .given table ∧ table.lookup k = some v

/-- No value passed contradicts the table of DAA or DAS: so under the default and under `anyValue`. -/
def FollowsTable (o : OpenResult AdjustInput Adjustment) (table : List AdjustRow) : Prop :=
  ∀ k x v, tableAdjust table k = some x → GivenAt o k v → v = x

/-! ## A block transfer -/

/-- One byte of a block transfer as the SSU sees it, `c` being its source and destination address and `s` the
state before the block: reading SSRDR clears RDRF, and the byte read is then stored (R291, R325). A byte of SSSR is
read as it is by then; any other is as it was before the block. -/
def blockSsu (s : State) (u : Ssu) (c : Word × Word) : Ssu :=
  ssuStore (if c.1 = 0xF0E9 then { u with sssr := u.sssr &&& 0xFD } else u)
    (c.2, if c.1 = 0xF0E4 then u.sssr &&& 0x4F else (s.read8 c.1).1)

/-! ## The serial unit and decimal numbers -/

/-- `n` ticks of the serial unit (R328). -/
def Ssu.cycles (rx : Byte) : Nat → Ssu → Ssu
  | 0, u => u
  | n + 1, u => Ssu.cycles rx n (u.cycle rx)

/-- Whether both digits of a packed-BCD byte are decimal. -/
def isBcd (b : Byte) : Bool := decide (b.toNat / 16 ≤ 9) && decide (b.toNat % 16 ≤ 9)

/-- The number that a packed-BCD byte stands for. -/
def bcdValue (b : Byte) : Nat := 10 * (b.toNat / 16) + b.toNat % 16

end Sys2Proof.Machine
end

