-- ==== Sys2Proof/Certificates/Slice0/Obligations.lean ====
section
/-! DEFINITION. The statements for the provers. Each names the rules it formalises in OBLIGATIONS.json. The frame of
an instruction is said with the vocabulary of Sys2Proof/Safety.lean: `OnlyByte`, `OnlyWord`, `OnlyLong` and
`NoRegister` for the general registers, `FlagsAre` and `SameFlags` for all eight bits of CCR, `SameWorld`,
`ReadWorld` and `StoreWorld` for every byte of memory, the serial unit and everything else. -/

open Sys2Proof Sys2Proof.Machine

/-! ## Reset, the step, the whole machine -/

/-- R350: what `reset()` leaves, at any time; the same state for the same ROM image and parameters (the count of free
values is the model's own and is left out). -/
def Obligations.ResetState : Prop :=
  (∀ s : State,
    (∀ n, s.hostReset.reg n = 0) ∧ s.hostReset.ccr = 0x80 ∧ s.hostReset.pc = 0
      ∧ s.hostReset.initialized = false
      ∧ (∀ a, InRam a → (s.hostReset.read8 a).1 = 0)
      ∧ s.hostReset.ssu.sscrh = 0x08 ∧ s.hostReset.ssu.sscrl = 0 ∧ s.hostReset.ssu.ssmr = 0
      ∧ s.hostReset.ssu.sser = 0 ∧ s.hostReset.ssu.sssr = s.params.sssrReset
      ∧ s.hostReset.ssu.ssrdr = 0 ∧ s.hostReset.ssu.sstdr = 0 ∧ s.hostReset.ssu.sstrsr = 0
      ∧ s.hostReset.ssu.bitCounter = 0 ∧ s.hostReset.ssu.clockCounter = 0
      ∧ s.hostReset.rom = s.rom ∧ s.hostReset.params = s.params)
  ∧ (∀ s t : State, s.rom = t.rom → s.params = t.params →
      { s.hostReset with freeIndex := 0 } = { t.hostReset with freeIndex := 0 })
  ∧ State.reset.hostReset = State.reset ∧ State.reset.params.sssrReset = 0x0C

/-- R46, at reset. That SSSR bits 7, 5 and 4 are 0 there needs a reset value of SSSR without them, which the default
has. -/
def Obligations.ResetMeetsInvariant : Prop :=
  Inv State.reset ∧
  ∀ s : State, Inv s → s.params.sssrReset &&& 0xB0 = 0 → Inv s.hostReset

/-- R46: the invariant is kept by every step, from every state that meets it. The canonical form of the two memories is
the model's. -/
def Obligations.StepKeepsInvariant : Prop :=
  ∀ s t : State, Inv s → step s = .next t → Inv t

/-- R353: the first step loads PC from the word at 0x0000, and that same step then fetches; later steps do not. -/
def Obligations.FirstStepLoadsVector : Prop :=
  (∀ s : State, s.initialized = false →
    s.loadVector = { s with pc := (s.rom.read 0 ++ s.rom.read 1).setWidth 32, initialized := true }
      ∧ step s = step s.loadVector) ∧
  ∀ s : State, s.initialized = true → s.loadVector = s

/-- R101, R102, R354, R355: when the words at PC decode to an instruction, the step runs it on the state whose PC is past
these words, and ticks the bus once. The second part says what the fetches read and leave: the words at PC, and the state
with PC advanced, unless a fetched word covers SSRDR. -/
def Obligations.StepRunsDecodedInstruction : Prop :=
  (∀ (s : State) (i : Instr) (ws : List Word), s.initialized = true →
    s.fetchedWords ws.length = ws → decode ws = .instr i ws.length →
    step s = tick (exec i (s.afterFetch ws.length))) ∧
  (∀ (s : State) (n : Nat), 1 ≤ n → n ≤ maxWords →
    (∀ k < n, ¬ touchesW (s.pc16 + BitVec.ofNat 16 (2 * k))) →
    s.fetchedWords n = (List.range n).map (fun k => wordAt s (s.pc16 + BitVec.ofNat 16 (2 * k)))
      ∧ s.afterFetch n = { s with pc := wrap24 (s.pc + BitVec.ofNat 32 (2 * n)) }) ∧
  ∀ s t : State, tick (.next s) = .next t → t = { s with ssu := s.ssu.cycle s.params.ssuRxByte }

/-- R301, R114: words that no row matches, under both policies. The words `ws` were fetched: up to the first that rules
every row out. Fetching them changed no register, flag or memory; what it did otherwise is what reading these addresses
does. -/
def Obligations.UndefinedOpcodeStep : Prop :=
  (∀ (s : State) (ws : List Word), s.initialized = true →
    s.fetchedWords ws.length = ws → decode ws = .undefinedOpcode →
    (∀ k < ws.length, decode (ws.take k) = .needMore) →
    (s.params.undefinedOpcode = .nopAdvance2 →
      step s = .next ({ s.afterFetch ws.length with pc := wrap24 (s.pc + 2) } : State).busCycle) ∧
    (s.params.undefinedOpcode = .fault →
      step s = .fault (.undefinedOpcode s.pc (wordAt s s.pc16)))) ∧
  ∀ (s : State) (n : Nat),
    (s.afterFetch n).er = s.er ∧ (s.afterFetch n).ccr = s.ccr ∧ (s.afterFetch n).rom = s.rom
      ∧ (s.afterFetch n).ram = s.ram ∧ (s.afterFetch n).params = s.params
      ∧ (s.afterFetch n).initialized = s.initialized

/-- R354: every instruction has a next state in every state; a step has one too, but for the fault that the
`undefinedOpcode := fault` policy asks for; nothing is ever refused. -/
def Obligations.StepAlwaysAnswers : Prop :=
  (∀ (i : Instr) (s : State), ∃ t, exec i s = .next t) ∧
  (∀ s : State, s.params.undefinedOpcode = .nopAdvance2 → ∃ t, step s = .next t) ∧
  (∀ s : State, ∀ r, step s ≠ .refused r) ∧
  ∀ s : State, ∀ f, step s = .fault f →
    s.params.undefinedOpcode = .fault ∧ ∃ a w, f = .undefinedOpcode a w

/-- R33, R47, R32: no step changes the ROM image or the parameters, and after a step the vector has been loaded. Last,
of the model's own counter (assumption 2): only an instruction with an open result takes a free value. -/
def Obligations.StepKeepsRomAndParameters : Prop :=
  (∀ s t : State, step s = .next t →
    t.rom = s.rom ∧ t.params = s.params ∧ t.initialized = true ∧ s.freeIndex ≤ t.freeIndex) ∧
  ∀ (i : Instr) (s t : State), exec i s = .next t →
    (hasOpenResult i = false
      ∨ s.params.daaAdjust ≠ .anyValue ∧ s.params.dasAdjust ≠ .anyValue ∧ s.params.divCorner ≠ .anyValue) →
    t.freeIndex = s.freeIndex

/-- R30, R29: I, UI and U change only by an instruction that writes the whole of CCR. -/
def Obligations.MaskBitsChangeOnlyWithAllOfCcr : Prop :=
  ∀ (i : Instr) (s t : State), writesAllOfCcr i = false → exec i s = .next t →
    t.flag .i = s.flag .i ∧ t.flag .ui = s.flag .ui ∧ t.flag .u = s.flag .u

/-! ## Encoding -/

/-- R103 to R112: decoding the words of a well-formed instruction gives it back, and takes exactly these words,
whatever follows. -/
def Obligations.DecodeEncode : Prop :=
  ∀ (i : Instr) (xs : List Word), i.wellFormed = true →
    decode (encode i ++ xs) = .instr i (encode i).length

/-- R116: every bit takes part in the match. Words that decode are the words of a well-formed instruction, bit for bit. -/
def Obligations.EncodeDecode : Prop :=
  ∀ (ws : List Word) (i : Instr) (n : Nat), decode ws = .instr i n →
    i.wellFormed = true ∧ n = (encode i).length ∧ ws.take n = encode i

/-- R113: no words are two instructions, and no instruction's words begin another's. -/
def Obligations.EncodingsUnambiguous : Prop :=
  ∀ (i j : Instr) (xs ys : List Word), i.wellFormed = true → j.wellFormed = true →
    encode i ++ xs = encode j ++ ys → i = j

/-- R119 and some words of each family, written out from the encodings of the instruction rules. -/
def Obligations.SampleWordsDecode : Prop :=
  decode [0xF842] = .instr (.movB_imm_rd 0x42 8) 1
  ∧ decode [0x0810] = .instr (.addB_rs_rd 1 0) 1
  ∧ decode [0x5E00, 0x0010] = .instr (.jsr_aa24 0x000010) 2
  ∧ decode [0x5470] = .instr .rts 1
  ∧ decode [0x7B5C, 0x598F] = .instr .eepmovB 2
  ∧ decode [0x0000] = .instr .nop 1
  ∧ decode [0x0100, 0x6DF2] = .instr (.movL_ers_preDec 2 7) 2
  ∧ decode [0x7820, 0x6AA8, 0x0012, 0x3456] = .instr (.movB_rs_d24 8 0x00123456 2) 4
  ∧ decode [0x01D0, 0x5312] = .instr (.divxsW_rs_erd 1 2) 2
  ∧ decode [0x01C0, 0x5010] = .instr (.mulxsB_rs_rd 1 0) 2
  ∧ decode [0x10B3] = .instr (.shalL 3) 1
  ∧ decode [0x7D10, 0x7200] = .instr (.bclr_imm_ind 0 1) 2
  ∧ decode [0x5860, 0xFFFC] = .instr (.bne_d16 0xFFFC) 2
  ∧ decode [0x0140, 0x6DF0] = .instr (.stc_preDec 7) 2
  ∧ decode [0x7D00, 0x7300] = .undefinedOpcode
  ∧ decode [0x0001] = .undefinedOpcode

/-! ## The bus -/

/-- R61, R62: what each address decodes to. -/
def Obligations.AddressMap : Prop :=
  (∀ a : Word, (InRom a ↔ a &&& 0xC000 ≠ 0xC000) ∧ (InRom a → decodeAddr a = .rom a.toNat)
    ∧ (InRam a → decodeAddr a = .ram (a.toNat - 0xF780))
    ∧ (¬ InRom a → ¬ InRam a → ¬ InSsu a → ¬ InFlash a → decodeAddr a = .openBus)) ∧
  decodeAddr 0xF020 = .flash .flmcr1 ∧ decodeAddr 0xF021 = .flash .flmcr2 ∧ decodeAddr 0xF022 = .flash .flpwcr
  ∧ decodeAddr 0xF023 = .flash .ebr1 ∧ decodeAddr 0xF02B = .flash .fenr
  ∧ decodeAddr 0xF0E0 = .ssu .sscrh ∧ decodeAddr 0xF0E1 = .ssu .sscrl ∧ decodeAddr 0xF0E2 = .ssu .ssmr
  ∧ decodeAddr 0xF0E3 = .ssu .sser ∧ decodeAddr 0xF0E4 = .ssu .sssr ∧ decodeAddr 0xF0E9 = .ssu .ssrdr
  ∧ decodeAddr 0xF0EB = .ssu .sstdr

/-- R73: a byte or a word written to RAM is read back, big-endian, and every other address is as before. -/
def Obligations.RamReadsBack : Prop :=
  (∀ (s : State) (a : Word) (v : Byte), InRam a →
    (s.write8 a v).read8 a = (v, s.write8 a v)
      ∧ ∀ b, b ≠ a → ((s.write8 a v).read8 b).1 = (s.read8 b).1) ∧
  ∀ (s : State) (a v : Word), InRam (evenAddr a) →
    ((s.write16 a v).read16 a).1 = v
      ∧ ((s.write16 a v).read8 (evenAddr a)).1 = v.extractLsb' 8 8
      ∧ ((s.write16 a v).read8 (oddAddr a)).1 = v.extractLsb' 0 8
      ∧ ∀ b, b ≠ evenAddr a → b ≠ oddAddr a → ((s.write16 a v).read8 b).1 = (s.read8 b).1

/-- R69: an open address reads as ones at every width, and a write to it changes nothing. -/
def Obligations.OpenBusReadsOnes : Prop :=
  (∀ (s : State) (a : Word), decodeAddr a = .openBus →
    s.read8 a = (0xFF, s) ∧ ∀ v, s.write8 a v = s) ∧
  (∀ (s : State) (a : Word), decodeAddr (evenAddr a) = .openBus → decodeAddr (oddAddr a) = .openBus →
    s.read16 a = (0xFFFF, s) ∧ (∀ v, s.write16 a v = s) ∧
    (decodeAddr (evenAddr (a + 2)) = .openBus → decodeAddr (oddAddr (a + 2)) = .openBus →
      s.read32 a = (0xFFFFFFFF, s) ∧ ∀ v, s.write32 a v = s)) ∧
  ∀ a : Word, (0xC000 ≤ a.toNat ∧ a.toNat ≤ 0xF01F) ∨ (0xF100 ≤ a.toNat ∧ a.toNat ≤ 0xF77F)
    ∨ 0xFF80 ≤ a.toNat → decodeAddr a = .openBus

/-- R33, R70, R72: after a ROM image is installed, ROM reads that image, and nothing but ROM has changed. A read of ROM
or of a flash-control register, the latter giving the parameter, has no side effect, and neither takes a write. Two
clauses rest on choices of the model. That the invariant is kept is about the model's own canonical form of memory
(assumption 3). That a raw binary which has not 49,152 bytes is no image is the model's reading of R362 and U19
(assumption 23). -/
def Obligations.RomImageAndFlash : Prop :=
  (∀ (s : State) (image : RomImage),
    (∀ (a : Word) (h : a.toNat < 49152), (s.installRom image).read8 a = (image[a.toNat], s.installRom image))
      ∧ s.installRom image = { s with rom := (s.installRom image).rom }
      ∧ (∀ a : Word, ¬ InRom a → ((s.installRom image).read8 a).1 = (s.read8 a).1)
      ∧ (Inv s → Inv (s.installRom image))) ∧
  (∀ bytes : List Byte,
    (bytes.length ≠ 49152 → RomImage.ofBytes bytes = none)
      ∧ (bytes.length = 49152 → ∃ image, RomImage.ofBytes bytes = some image ∧ image.toList = bytes)) ∧
  ∀ (s : State) (a : Word),
    (InRom a → s.read8 a = (s.rom.read a.toNat, s) ∧ ∀ v, s.write8 a v = s) ∧
    (InFlash a → s.read8 a = (s.params.flashRegRead, s) ∧ ∀ v, s.write8 a v = s)

/-- R76: an access of more than a byte at an odd address, and a fetch at an odd PC, is that at the even address below. A
long access at any address is that of the words there and two above. -/
def Obligations.WideAccessIgnoresBitZero : Prop :=
  (∀ (s : State) (a : Word), a.getLsbD 0 = true →
    s.read16 a = s.read16 (a - 1) ∧ s.read32 a = s.read32 (a - 1)
    ∧ (∀ v, s.write16 a v = s.write16 (a - 1) v) ∧ (∀ v, s.write32 a v = s.write32 (a - 1) v)
    ∧ (s.pc16 = a → s.fetch16.1 = (s.read16 (a - 1)).1)) ∧
  ∀ (s : State) (a : Word), (s.read16 a).1 = wordAt s a ∧ (s.read32 a).1 = wordAt s a ++ wordAt s (a + 2)

/-- R65, R68, R75: a long in RAM is four bytes, the most significant at the lowest address, and reads back. -/
def Obligations.LongAccessBigEndian : Prop :=
  ∀ (s : State) (a : Word) (v : Long), a.getLsbD 0 = false → InRam a → InRam (a + 2) →
    ((s.write32 a v).read8 a).1 = v.extractLsb' 24 8
    ∧ ((s.write32 a v).read8 (a + 1)).1 = v.extractLsb' 16 8
    ∧ ((s.write32 a v).read8 (a + 2)).1 = v.extractLsb' 8 8
    ∧ ((s.write32 a v).read8 (a + 3)).1 = v.extractLsb' 0 8
    ∧ ((s.write32 a v).read16 (a + 2)).1 = v.extractLsb' 0 16
    ∧ ((s.write32 a v).read32 a).1 = v
    ∧ ∀ b, b ≠ a → b ≠ a + 1 → b ≠ a + 2 → b ≠ a + 3 → ((s.write32 a v).read8 b).1 = (s.read8 b).1

/-! ## The serial unit -/

/-- R317, R320 to R325: a read gives the stored byte under the read mask and changes nothing, but for SSRDR, which
clears RDRF. A write stores the whole byte and nothing else, but for SSSR, where software can clear bits and set none, and
for SSTDR, whose side effect is the subject of `SstdrWrite`. -/
def Obligations.SsuRegisterAccess : Prop :=
  (∀ s : State,
    s.read8 0xF0E0 = (s.ssu.sscrh, s) ∧ s.read8 0xF0E1 = (s.ssu.sscrl &&& 0x78, s)
    ∧ s.read8 0xF0E2 = (s.ssu.ssmr &&& 0xE7, s) ∧ s.read8 0xF0E3 = (s.ssu.sser &&& 0xEF, s)
    ∧ s.read8 0xF0E4 = (s.ssu.sssr &&& 0x4F, s)
    ∧ s.read8 0xF0E9 = (s.ssu.ssrdr, { s with ssu := { s.ssu with sssr := s.ssu.sssr &&& 0xFD } })
    ∧ s.read8 0xF0EB = (s.ssu.sstdr, s)) ∧
  ∀ (s : State) (v : Byte),
    s.write8 0xF0E0 v = { s with ssu := { s.ssu with sscrh := v } }
    ∧ s.write8 0xF0E1 v = { s with ssu := { s.ssu with sscrl := v } }
    ∧ s.write8 0xF0E2 v = { s with ssu := { s.ssu with ssmr := v } }
    ∧ s.write8 0xF0E3 v = { s with ssu := { s.ssu with sser := v } }
    ∧ s.write8 0xF0E9 v = { s with ssu := { s.ssu with ssrdr := v } }
    ∧ (s.write8 0xF0EB v).ssu.sstdr = v
    ∧ s.write8 0xF0E4 v = { s with ssu := { s.ssu with sssr := s.ssu.sssr &&& v } }
    ∧ ∀ k, (s.write8 0xF0E4 v).ssu.sssr.getLsbD k = true →
        s.ssu.sssr.getLsbD k = true ∧ v.getLsbD k = true

/-- R326: SSTDR reads as stored and resets to 0. A write of it starts a transfer when Idle (TEND, bit 3) and buffers the
byte otherwise (TDRE, bit 2). -/
def Obligations.SstdrWrite : Prop :=
  (∀ s : State, s.read8 0xF0EB = (s.ssu.sstdr, s) ∧ s.hostReset.ssu.sstdr = 0) ∧
  ∀ (s : State) (v : Byte),
    (s.ssu.sssr.getLsbD 3 = true →
      s.write8 0xF0EB v = { s with ssu := { s.ssu with
        sstdr := v, sstrsr := v, sssr := s.ssu.sssr &&& 0xF7, bitCounter := 0, clockCounter := 0 } }) ∧
    (s.ssu.sssr.getLsbD 3 = false →
      s.write8 0xF0EB v = { s with ssu := { s.ssu with sstdr := v, sssr := s.ssu.sssr &&& 0xFB } })

/-- R328: one cycle, from any state of the unit. `p` is the prescaler after the step of the rule, `b` the bit counter. -/
def Obligations.SsuCycle : Prop :=
  ∀ (u : Ssu) (rx : Byte),
    (u.sssr.getLsbD 3 = true → u.cycle rx = u) ∧
    (u.sssr.getLsbD 3 = false → ∀ p b : Nat,
      p = (if 256 ≤ u.clockCounter + 2 ^ (u.ssmr.toNat % 8) then u.clockCounter + 2 ^ (u.ssmr.toNat % 8) - 256
        else u.clockCounter + 2 ^ (u.ssmr.toNat % 8)) →
      b = (if 256 ≤ u.clockCounter + 2 ^ (u.ssmr.toNat % 8) then u.bitCounter + 1 else u.bitCounter) →
      (b ≠ 8 → u.cycle rx = { u with clockCounter := p, bitCounter := b }) ∧
      (b = 8 → (u.cycle rx).clockCounter = p ∧ (u.cycle rx).bitCounter = 0
        ∧ (u.cycle rx).sscrh = u.sscrh ∧ (u.cycle rx).sscrl = u.sscrl ∧ (u.cycle rx).ssmr = u.ssmr
        ∧ (u.cycle rx).sser = u.sser ∧ (u.cycle rx).sstdr = u.sstdr
        ∧ (u.cycle rx).sstrsr = (if u.sssr.getLsbD 2 then u.sstrsr else u.sstdr)
        ∧ (u.cycle rx).ssrdr = (if u.sssr.getLsbD 1 then u.ssrdr else rx)
        ∧ (u.cycle rx).sssr.getLsbD 7 = u.sssr.getLsbD 7
        ∧ (u.cycle rx).sssr.getLsbD 6 = (u.sssr.getLsbD 6 || u.sssr.getLsbD 1)
        ∧ (u.cycle rx).sssr.getLsbD 5 = u.sssr.getLsbD 5
        ∧ (u.cycle rx).sssr.getLsbD 4 = u.sssr.getLsbD 4
        ∧ (u.cycle rx).sssr.getLsbD 3 = u.sssr.getLsbD 2
        ∧ (u.cycle rx).sssr.getLsbD 2 = true
        ∧ (u.cycle rx).sssr.getLsbD 1 = true
        ∧ (u.cycle rx).sssr.getLsbD 0 = u.sssr.getLsbD 0))

/-- R326, R328, R329: with CKS constant a byte takes `2048 >> CKS` ticks from the SSTDR write that starts it, which the
spec derives (R329) from the cycle of R328; what the write and the cycles leave is R326's and R328's. Until then
the unit is Transferring and has received nothing, and then it is Idle (or goes on, if a byte was buffered), with RDRF
set and the byte received unless the last one was not read. -/
def Obligations.SsuByteTime : Prop :=
  ∀ (u : Ssu) (v rx : Byte), u.tend = true →
    (∀ k < 2048 >>> u.cks, (Ssu.cycles rx k (u.write .sstdr v)).tend = false
      ∧ (Ssu.cycles rx k (u.write .sstdr v)).rdrf = u.rdrf
      ∧ (Ssu.cycles rx k (u.write .sstdr v)).ssrdr = u.ssrdr
      ∧ (Ssu.cycles rx k (u.write .sstdr v)).bitCounter = k * 2 ^ u.cks / 256) ∧
    (Ssu.cycles rx (2048 >>> u.cks) (u.write .sstdr v)).tend = u.tdre
    ∧ (Ssu.cycles rx (2048 >>> u.cks) (u.write .sstdr v)).rdrf = true
    ∧ (Ssu.cycles rx (2048 >>> u.cks) (u.write .sstdr v)).orer = (u.orer || u.rdrf)
    ∧ (Ssu.cycles rx (2048 >>> u.cks) (u.write .sstdr v)).ssrdr = (if u.rdrf then u.ssrdr else rx)
    ∧ (Ssu.cycles rx (2048 >>> u.cks) (u.write .sstdr v)).bitCounter = 0
    ∧ (Ssu.cycles rx (2048 >>> u.cks) (u.write .sstdr v)).clockCounter = 0

/-! ## Registers and addresses -/

/-- R21, R22: the views are slices of one storage, and a write to a narrower view keeps every bit outside it. -/
def Obligations.RegisterViews : Prop :=
  (∀ (s : State) (n : Reg3),
    s.r16 (0#1 ++ n) = (s.reg n).extractLsb' 0 16 ∧ s.r16 (1#1 ++ n) = (s.reg n).extractLsb' 16 16
    ∧ s.r8 (0#1 ++ n) = (s.reg n).extractLsb' 8 8 ∧ s.r8 (1#1 ++ n) = (s.reg n).extractLsb' 0 8) ∧
  (∀ (s : State) (n : Reg3) (v : Word),
    OnlyLong s (s.setR16 (0#1 ++ n) v) n ((s.reg n).extractLsb' 16 16 ++ v)
    ∧ OnlyLong s (s.setR16 (1#1 ++ n) v) n (v ++ (s.reg n).extractLsb' 0 16)) ∧
  (∀ (s : State) (n : Reg3) (v : Byte),
    OnlyLong s (s.setR8 (0#1 ++ n) v) n
      ((s.reg n).extractLsb' 16 16 ++ v ++ (s.reg n).extractLsb' 0 8)
    ∧ OnlyLong s (s.setR8 (1#1 ++ n) v) n ((s.reg n).extractLsb' 8 24 ++ v)) ∧
  ∀ (s : State) (n : Reg3) (v : Long), OnlyLong s (s.setReg n v) n v

/-- R141, R142, R143, R145, R146: the effective addresses, in 16 bits. -/
def Obligations.EffectiveAddresses : Prop :=
  ∀ (s : State) (n : Reg3),
    s.eaInd n = (s.reg n).extractLsb' 0 16
    ∧ (∀ d : Word, s.eaD16 d n = (s.reg n).extractLsb' 0 16 + d
        ∧ s.eaD16 d n = (s.reg n + d.signExtend 32).extractLsb' 0 16)
    ∧ (∀ d : Long, s.eaD24 d n = (s.reg n).extractLsb' 0 16 + d.extractLsb' 0 16)
    ∧ (∀ d : BitVec 24, s.eaD24 (d.setWidth 32) n = (s.reg n + d.signExtend 32).extractLsb' 0 16)
    ∧ (∀ aa : Byte, eaAa8 aa = 0xFF00 ||| aa.setWidth 16)
    ∧ (∀ aa : Word, eaAa16 aa = aa)
    ∧ ∀ aa : Long, eaAa24 aa = aa.extractLsb' 0 16

/-! ## Data transfer -/

/-- R148, R149, R152, R153, R156, R157, R147: moves to a register, of a register or an immediate. -/
def Obligations.MovRegister : Prop :=
  ∀ s : State,
    (∀ rs rd, Completes (.movB_rs_rd rs rd) s fun t =>
      OnlyByte s t rd (s.r8 rs) ∧ MoveFlags s t (s.r8 rs) ∧ Quiet s t)
    ∧ (∀ imm rd, Completes (.movB_imm_rd imm rd) s fun t =>
      OnlyByte s t rd imm ∧ MoveFlags s t imm ∧ Quiet s t)
    ∧ (∀ rs rd, Completes (.movW_rs_rd rs rd) s fun t =>
      OnlyWord s t rd (s.r16 rs) ∧ MoveFlags s t (s.r16 rs) ∧ Quiet s t)
    ∧ (∀ imm rd, Completes (.movW_imm_rd imm rd) s fun t =>
      OnlyWord s t rd imm ∧ MoveFlags s t imm ∧ Quiet s t)
    ∧ (∀ ers erd, Completes (.movL_ers_erd ers erd) s fun t =>
      OnlyLong s t erd (s.reg ers) ∧ MoveFlags s t (s.reg ers) ∧ Quiet s t)
    ∧ (∀ imm erd, Completes (.movL_imm_erd imm erd) s fun t =>
      OnlyLong s t erd imm ∧ MoveFlags s t imm ∧ Quiet s t)

/-- R150, R160, R147: byte loads. -/
def Obligations.ByteLoads : Prop :=
  ∀ (s : State) (i : Instr) (ea : Word) (rd : Reg4),
    ((∃ ers, i = .movB_ind_rd ers rd ∧ ea = s.eaInd ers)
      ∨ (∃ d ers, i = .movB_d16_rd d ers rd ∧ ea = s.eaD16 d ers)
      ∨ (∃ d ers, i = .movB_d24_rd d ers rd ∧ ea = s.eaD24 d ers)
      ∨ (∃ aa, i = .movB_aa8_rd aa rd ∧ ea = eaAa8 aa)
      ∨ (∃ aa, i = .movB_aa16_rd aa rd ∧ ea = eaAa16 aa)
      ∨ (∃ aa, i = .movB_aa24_rd aa rd ∧ ea = eaAa24 aa)
      ∨ (∃ aa, i = .movfpe_aa16_rd aa rd ∧ ea = eaAa16 aa)) →
    Completes i s fun t =>
      OnlyByte s t rd (s.read8 ea).1 ∧ MoveFlags s t (s.read8 ea).1 ∧ QuietRead s t (ea = 0xF0E9)

/-- R154, R147: word loads. -/
def Obligations.WordLoads : Prop :=
  ∀ (s : State) (i : Instr) (ea : Word) (rd : Reg4),
    ((∃ ers, i = .movW_ind_rd ers rd ∧ ea = s.eaInd ers)
      ∨ (∃ d ers, i = .movW_d16_rd d ers rd ∧ ea = s.eaD16 d ers)
      ∨ (∃ d ers, i = .movW_d24_rd d ers rd ∧ ea = s.eaD24 d ers)
      ∨ (∃ aa, i = .movW_aa16_rd aa rd ∧ ea = eaAa16 aa)
      ∨ (∃ aa, i = .movW_aa24_rd aa rd ∧ ea = eaAa24 aa)) →
    Completes i s fun t =>
      OnlyWord s t rd (wordAt s ea) ∧ MoveFlags s t (wordAt s ea) ∧ QuietRead s t (touchesW ea)

/-- R158, R147: long loads. -/
def Obligations.LongLoads : Prop :=
  ∀ (s : State) (i : Instr) (ea : Word) (erd : Reg3),
    ((∃ ers, i = .movL_ind_erd ers erd ∧ ea = s.eaInd ers)
      ∨ (∃ d ers, i = .movL_d16_erd d ers erd ∧ ea = s.eaD16 d ers)
      ∨ (∃ d ers, i = .movL_d24_erd d ers erd ∧ ea = s.eaD24 d ers)
      ∨ (∃ aa, i = .movL_aa16_erd aa erd ∧ ea = eaAa16 aa)
      ∨ (∃ aa, i = .movL_aa24_erd aa erd ∧ ea = eaAa24 aa)) →
    Completes i s fun t =>
      OnlyLong s t erd (longAt s ea) ∧ MoveFlags s t (longAt s ea) ∧ QuietRead s t (touchesL ea)

/-- R144, R162(a), R147: post-increment loads. The address register is incremented on all 32 bits, then the value is
written: in the bits where the two overlap the value wins. -/
def Obligations.PostIncrementLoads : Prop :=
  ∀ (s : State) (ers : Reg3),
    (∀ rd, Completes (.movB_postInc_rd ers rd) s fun t =>
      OnlyByte (s.setReg ers (s.reg ers + 1)) t rd (s.read8 (s.eaInd ers)).1
        ∧ MoveFlags s t (s.read8 (s.eaInd ers)).1 ∧ QuietRead s t (s.eaInd ers = 0xF0E9))
    ∧ (∀ rd, Completes (.movW_postInc_rd ers rd) s fun t =>
      OnlyWord (s.setReg ers (s.reg ers + 2)) t rd (wordAt s (s.eaInd ers))
        ∧ MoveFlags s t (wordAt s (s.eaInd ers)) ∧ QuietRead s t (touchesW (s.eaInd ers)))
    ∧ (∀ erd, Completes (.movL_postInc_erd ers erd) s fun t =>
      OnlyLong (s.setReg ers (s.reg ers + 4)) t erd (longAt s (s.eaInd ers))
        ∧ MoveFlags s t (longAt s (s.eaInd ers)) ∧ QuietRead s t (touchesL (s.eaInd ers)))

/-- R151, R161, R147: byte stores. -/
def Obligations.ByteStores : Prop :=
  ∀ (s : State) (i : Instr) (ea : Word) (rs : Reg4),
    ((∃ erd, i = .movB_rs_ind rs erd ∧ ea = s.eaInd erd)
      ∨ (∃ d erd, i = .movB_rs_d16 rs d erd ∧ ea = s.eaD16 d erd)
      ∨ (∃ d erd, i = .movB_rs_d24 rs d erd ∧ ea = s.eaD24 d erd)
      ∨ (∃ aa, i = .movB_rs_aa8 rs aa ∧ ea = eaAa8 aa)
      ∨ (∃ aa, i = .movB_rs_aa16 rs aa ∧ ea = eaAa16 aa)
      ∨ (∃ aa, i = .movB_rs_aa24 rs aa ∧ ea = eaAa24 aa)
      ∨ (∃ aa, i = .movtpe_rs_aa16 rs aa ∧ ea = eaAa16 aa)) →
    Completes i s fun t =>
      NoRegister s t ∧ MoveFlags s t (s.r8 rs) ∧ QuietStore s t [(ea, s.r8 rs)]

/-- R155, R147: word stores. -/
def Obligations.WordStores : Prop :=
  ∀ (s : State) (i : Instr) (ea : Word) (rs : Reg4),
    ((∃ erd, i = .movW_rs_ind rs erd ∧ ea = s.eaInd erd)
      ∨ (∃ d erd, i = .movW_rs_d16 rs d erd ∧ ea = s.eaD16 d erd)
      ∨ (∃ d erd, i = .movW_rs_d24 rs d erd ∧ ea = s.eaD24 d erd)
      ∨ (∃ aa, i = .movW_rs_aa16 rs aa ∧ ea = eaAa16 aa)
      ∨ (∃ aa, i = .movW_rs_aa24 rs aa ∧ ea = eaAa24 aa)) →
    Completes i s fun t =>
      NoRegister s t ∧ MoveFlags s t (s.r16 rs) ∧ QuietStore s t (wordBytes ea (s.r16 rs))

/-- R159, R147: long stores. -/
def Obligations.LongStores : Prop :=
  ∀ (s : State) (i : Instr) (ea : Word) (ers : Reg3),
    ((∃ erd, i = .movL_ers_ind ers erd ∧ ea = s.eaInd erd)
      ∨ (∃ d erd, i = .movL_ers_d16 ers d erd ∧ ea = s.eaD16 d erd)
      ∨ (∃ d erd, i = .movL_ers_d24 ers d erd ∧ ea = s.eaD24 d erd)
      ∨ (∃ aa, i = .movL_ers_aa16 ers aa ∧ ea = eaAa16 aa)
      ∨ (∃ aa, i = .movL_ers_aa24 ers aa ∧ ea = eaAa24 aa)) →
    Completes i s fun t =>
      NoRegister s t ∧ MoveFlags s t (s.reg ers) ∧ QuietStore s t (longBytes ea (s.reg ers))

/-- R144, R162(b), R147: pre-decrement stores. The register is decremented on all 32 bits first; the source is read
after that. Where the source lies in ERd, storing the value from after the decrement is the model's choice: it follows
R144 and R162(b), and not the parenthesis of decision D20 (assumption 15). -/
def Obligations.PreDecrementStores : Prop :=
  ∀ (s : State) (erd : Reg3),
    (∀ rs, Completes (.movB_rs_preDec rs erd) s fun t =>
      ∀ v, v = (s.setReg erd (s.reg erd - 1)).r8 rs →
      OnlyLong s t erd (s.reg erd - 1) ∧ MoveFlags s t v
        ∧ QuietStore s t [((s.reg erd - 1).setWidth 16, v)])
    ∧ (∀ rs, Completes (.movW_rs_preDec rs erd) s fun t =>
      ∀ v, v = (s.setReg erd (s.reg erd - 2)).r16 rs →
      OnlyLong s t erd (s.reg erd - 2) ∧ MoveFlags s t v
        ∧ QuietStore s t (wordBytes ((s.reg erd - 2).setWidth 16) v))
    ∧ (∀ ers, Completes (.movL_ers_preDec ers erd) s fun t =>
      ∀ v, v = (s.setReg erd (s.reg erd - 4)).reg ers →
      OnlyLong s t erd (s.reg erd - 4) ∧ MoveFlags s t v
        ∧ QuietStore s t (longBytes ((s.reg erd - 4).setWidth 16) v))

/-! ## Arithmetic -/

/-- R171, R172, R173, R9: ADD. -/
def Obligations.Addition : Prop :=
  ∀ s : State,
    (∀ imm rd, Completes (.addB_imm_rd imm rd) s fun t =>
      OnlyByte s t rd (s.r8 rd + imm) ∧ SumFlags s t (s.r8 rd) imm false (decide (s.r8 rd + imm = 0))
        ∧ Quiet s t)
    ∧ (∀ rs rd, Completes (.addB_rs_rd rs rd) s fun t =>
      OnlyByte s t rd (s.r8 rd + s.r8 rs)
        ∧ SumFlags s t (s.r8 rd) (s.r8 rs) false (decide (s.r8 rd + s.r8 rs = 0)) ∧ Quiet s t)
    ∧ (∀ imm rd, Completes (.addW_imm_rd imm rd) s fun t =>
      OnlyWord s t rd (s.r16 rd + imm) ∧ SumFlags s t (s.r16 rd) imm false (decide (s.r16 rd + imm = 0))
        ∧ Quiet s t)
    ∧ (∀ rs rd, Completes (.addW_rs_rd rs rd) s fun t =>
      OnlyWord s t rd (s.r16 rd + s.r16 rs)
        ∧ SumFlags s t (s.r16 rd) (s.r16 rs) false (decide (s.r16 rd + s.r16 rs = 0)) ∧ Quiet s t)
    ∧ (∀ imm erd, Completes (.addL_imm_erd imm erd) s fun t =>
      OnlyLong s t erd (s.reg erd + imm) ∧ SumFlags s t (s.reg erd) imm false (decide (s.reg erd + imm = 0))
        ∧ Quiet s t)
    ∧ (∀ ers erd, Completes (.addL_ers_erd ers erd) s fun t =>
      OnlyLong s t erd (s.reg erd + s.reg ers)
        ∧ SumFlags s t (s.reg erd) (s.reg ers) false (decide (s.reg erd + s.reg ers = 0)) ∧ Quiet s t)

/-- R176, R177, R178, R184, R9: SUB; and NEG, which is the difference from 0. -/
def Obligations.SubtractAndNegate : Prop :=
  ∀ s : State,
    (∀ rs rd, Completes (.subB_rs_rd rs rd) s fun t =>
      OnlyByte s t rd (s.r8 rd - s.r8 rs)
        ∧ DifferenceFlags s t (s.r8 rd) (s.r8 rs) false (decide (s.r8 rd = s.r8 rs)) ∧ Quiet s t)
    ∧ (∀ imm rd, Completes (.subW_imm_rd imm rd) s fun t =>
      OnlyWord s t rd (s.r16 rd - imm)
        ∧ DifferenceFlags s t (s.r16 rd) imm false (decide (s.r16 rd = imm)) ∧ Quiet s t)
    ∧ (∀ rs rd, Completes (.subW_rs_rd rs rd) s fun t =>
      OnlyWord s t rd (s.r16 rd - s.r16 rs)
        ∧ DifferenceFlags s t (s.r16 rd) (s.r16 rs) false (decide (s.r16 rd = s.r16 rs)) ∧ Quiet s t)
    ∧ (∀ imm erd, Completes (.subL_imm_erd imm erd) s fun t =>
      OnlyLong s t erd (s.reg erd - imm)
        ∧ DifferenceFlags s t (s.reg erd) imm false (decide (s.reg erd = imm)) ∧ Quiet s t)
    ∧ (∀ ers erd, Completes (.subL_ers_erd ers erd) s fun t =>
      OnlyLong s t erd (s.reg erd - s.reg ers)
        ∧ DifferenceFlags s t (s.reg erd) (s.reg ers) false (decide (s.reg erd = s.reg ers)) ∧ Quiet s t)
    ∧ (∀ rd, Completes (.negB rd) s fun t =>
      OnlyByte s t rd (-(s.r8 rd)) ∧ DifferenceFlags s t 0 (s.r8 rd) false (decide (s.r8 rd = 0))
        ∧ Quiet s t)
    ∧ (∀ rd, Completes (.negW rd) s fun t =>
      OnlyWord s t rd (-(s.r16 rd)) ∧ DifferenceFlags s t 0 (s.r16 rd) false (decide (s.r16 rd = 0))
        ∧ Quiet s t)
    ∧ (∀ erd, Completes (.negL erd) s fun t =>
      OnlyLong s t erd (-(s.reg erd)) ∧ DifferenceFlags s t 0 (s.reg erd) false (decide (s.reg erd = 0))
        ∧ Quiet s t)

/-- R181, R182, R183, R9: CMP writes the flags of the difference and no register. -/
def Obligations.Compare : Prop :=
  ∀ s : State,
    (∀ imm rd, Completes (.cmpB_imm_rd imm rd) s fun t =>
      NoRegister s t ∧ DifferenceFlags s t (s.r8 rd) imm false (decide (s.r8 rd = imm)) ∧ Quiet s t)
    ∧ (∀ rs rd, Completes (.cmpB_rs_rd rs rd) s fun t =>
      NoRegister s t ∧ DifferenceFlags s t (s.r8 rd) (s.r8 rs) false (decide (s.r8 rd = s.r8 rs))
        ∧ Quiet s t)
    ∧ (∀ imm rd, Completes (.cmpW_imm_rd imm rd) s fun t =>
      NoRegister s t ∧ DifferenceFlags s t (s.r16 rd) imm false (decide (s.r16 rd = imm)) ∧ Quiet s t)
    ∧ (∀ rs rd, Completes (.cmpW_rs_rd rs rd) s fun t =>
      NoRegister s t ∧ DifferenceFlags s t (s.r16 rd) (s.r16 rs) false (decide (s.r16 rd = s.r16 rs))
        ∧ Quiet s t)
    ∧ (∀ imm erd, Completes (.cmpL_imm_erd imm erd) s fun t =>
      NoRegister s t ∧ DifferenceFlags s t (s.reg erd) imm false (decide (s.reg erd = imm)) ∧ Quiet s t)
    ∧ (∀ ers erd, Completes (.cmpL_ers_erd ers erd) s fun t =>
      NoRegister s t ∧ DifferenceFlags s t (s.reg erd) (s.reg ers) false (decide (s.reg erd = s.reg ers))
        ∧ Quiet s t)

/-- R175, R180, R9: ADDX and SUBX take C in and can only clear Z. -/
def Obligations.AddAndSubtractWithCarry : Prop :=
  ∀ s : State,
    (∀ imm rd, Completes (.addx_imm_rd imm rd) s fun t =>
      ∀ r, r = s.r8 rd + imm + (if s.flag .c then 1 else 0) →
      OnlyByte s t rd r ∧ SumFlags s t (s.r8 rd) imm (s.flag .c) (s.flag .z && decide (r = 0)) ∧ Quiet s t)
    ∧ (∀ rs rd, Completes (.addx_rs_rd rs rd) s fun t =>
      ∀ r, r = s.r8 rd + s.r8 rs + (if s.flag .c then 1 else 0) →
      OnlyByte s t rd r ∧ SumFlags s t (s.r8 rd) (s.r8 rs) (s.flag .c) (s.flag .z && decide (r = 0))
        ∧ Quiet s t)
    ∧ (∀ imm rd, Completes (.subx_imm_rd imm rd) s fun t =>
      ∀ r, r = s.r8 rd - imm - (if s.flag .c then 1 else 0) →
      OnlyByte s t rd r ∧ DifferenceFlags s t (s.r8 rd) imm (s.flag .c) (s.flag .z && decide (r = 0))
        ∧ Quiet s t)
    ∧ (∀ rs rd, Completes (.subx_rs_rd rs rd) s fun t =>
      ∀ r, r = s.r8 rd - s.r8 rs - (if s.flag .c then 1 else 0) →
      OnlyByte s t rd r ∧ DifferenceFlags s t (s.r8 rd) (s.r8 rs) (s.flag .c) (s.flag .z && decide (r = 0))
        ∧ Quiet s t)

/-- R174, R179: ADDS and SUBS change one long register by 1, 2 or 4 and no flag. -/
def Obligations.AddressArithmetic : Prop :=
  ∀ (s : State) (erd : Reg3),
    (Completes (.adds_1 erd) s fun t => OnlyLong s t erd (s.reg erd + 1) ∧ SameFlags s t ∧ Quiet s t)
    ∧ (Completes (.adds_2 erd) s fun t => OnlyLong s t erd (s.reg erd + 2) ∧ SameFlags s t ∧ Quiet s t)
    ∧ (Completes (.adds_4 erd) s fun t => OnlyLong s t erd (s.reg erd + 4) ∧ SameFlags s t ∧ Quiet s t)
    ∧ (Completes (.subs_1 erd) s fun t => OnlyLong s t erd (s.reg erd - 1) ∧ SameFlags s t ∧ Quiet s t)
    ∧ (Completes (.subs_2 erd) s fun t => OnlyLong s t erd (s.reg erd - 2) ∧ SameFlags s t ∧ Quiet s t)
    ∧ (Completes (.subs_4 erd) s fun t => OnlyLong s t erd (s.reg erd - 4) ∧ SameFlags s t ∧ Quiet s t)

/-- R196 to R201: INC and DEC write N, Z and V (signed overflow, R204) and keep H and C. -/
def Obligations.IncrementAndDecrement : Prop :=
  ∀ s : State,
    (∀ rd, Completes (.incB rd) s fun t => OnlyByte s t rd (s.r8 rd + 1)
      ∧ FlagsAre s t (s.flag .h) (s.r8 rd + 1).msb (decide (s.r8 rd + 1 = 0))
          (decide ((s.r8 rd + 1).toInt ≠ (s.r8 rd).toInt + 1)) (s.flag .c) ∧ Quiet s t)
    ∧ (∀ rd, Completes (.decB rd) s fun t => OnlyByte s t rd (s.r8 rd - 1)
      ∧ FlagsAre s t (s.flag .h) (s.r8 rd - 1).msb (decide (s.r8 rd - 1 = 0))
          (decide ((s.r8 rd - 1).toInt ≠ (s.r8 rd).toInt - 1)) (s.flag .c) ∧ Quiet s t)
    ∧ (∀ (k : Word) (i : Instr) (rd : Reg4),
      (k = 1 ∧ i = .incW_1 rd ∨ k = 2 ∧ i = .incW_2 rd) →
      Completes i s fun t => OnlyWord s t rd (s.r16 rd + k)
        ∧ FlagsAre s t (s.flag .h) (s.r16 rd + k).msb (decide (s.r16 rd + k = 0))
            (decide ((s.r16 rd + k).toInt ≠ (s.r16 rd).toInt + k.toInt)) (s.flag .c) ∧ Quiet s t)
    ∧ (∀ (k : Word) (i : Instr) (rd : Reg4),
      (k = 1 ∧ i = .decW_1 rd ∨ k = 2 ∧ i = .decW_2 rd) →
      Completes i s fun t => OnlyWord s t rd (s.r16 rd - k)
        ∧ FlagsAre s t (s.flag .h) (s.r16 rd - k).msb (decide (s.r16 rd - k = 0))
            (decide ((s.r16 rd - k).toInt ≠ (s.r16 rd).toInt - k.toInt)) (s.flag .c) ∧ Quiet s t)
    ∧ (∀ (k : Long) (i : Instr) (erd : Reg3),
      (k = 1 ∧ i = .incL_1 erd ∨ k = 2 ∧ i = .incL_2 erd) →
      Completes i s fun t => OnlyLong s t erd (s.reg erd + k)
        ∧ FlagsAre s t (s.flag .h) (s.reg erd + k).msb (decide (s.reg erd + k = 0))
            (decide ((s.reg erd + k).toInt ≠ (s.reg erd).toInt + k.toInt)) (s.flag .c) ∧ Quiet s t)
    ∧ (∀ (k : Long) (i : Instr) (erd : Reg3),
      (k = 1 ∧ i = .decL_1 erd ∨ k = 2 ∧ i = .decL_2 erd) →
      Completes i s fun t => OnlyLong s t erd (s.reg erd - k)
        ∧ FlagsAre s t (s.flag .h) (s.reg erd - k).msb (decide (s.reg erd - k = 0))
            (decide ((s.reg erd - k).toInt ≠ (s.reg erd).toInt - k.toInt)) (s.flag .c) ∧ Quiet s t)

/-- R185, R186, R6: DAA and DAS. Whatever the parameter says, only Rd changes and N and Z follow it. A function that is
passed is followed where it lists a value, and the default elsewhere, and H and V are then kept. A byte that the tables
list is adjusted as they say, unless the function passed says otherwise. Under `anyValue` a byte outside the tables,
and H and V, are free (assumption 2): nothing is said of them. Any function of C, H and the byte can be passed. -/
def Obligations.DecimalAdjust : Prop :=
  (∀ f : AdjustInput → Adjustment, ∃ table : List (AdjustInput × Adjustment), ∀ k, table.lookup k = some (f k)) ∧
  ∀ (s : State) (rd : Reg4),
    (Completes (.daa rd) s fun t =>
      OnlyByte s t rd (t.r8 rd)
      ∧ FlagsAre s t (t.flag .h) (t.r8 rd).msb (decide (t.r8 rd = 0)) (t.flag .v) (t.flag .c) ∧ Quiet s t
      ∧ (s.params.daaAdjust ≠ .anyValue → t.flag .h = s.flag .h ∧ t.flag .v = s.flag .v)
      ∧ (∀ x, GivenAt s.params.daaAdjust ⟨s.flag .c, s.flag .h, s.r8 rd⟩ x →
          t.r8 rd = s.r8 rd + x.addend ∧ t.flag .c = x.cAfter)
      ∧ (∀ x, FollowsTable s.params.daaAdjust daaTable →
          tableAdjust daaTable ⟨s.flag .c, s.flag .h, s.r8 rd⟩ = some x →
          t.r8 rd = s.r8 rd + x.addend ∧ t.flag .c = x.cAfter)
      ∧ (DefaultAt s.params.daaAdjust ⟨s.flag .c, s.flag .h, s.r8 rd⟩ →
          (t.flag .c ↔ s.flag .c ∨ 0x99 < (s.r8 rd).toNat)
          ∧ t.r8 rd = s.r8 rd + (if s.flag .h ∨ 9 < (s.r8 rd).toNat % 16 then 0x06 else 0)
              + (if s.flag .c ∨ 0x99 < (s.r8 rd).toNat then 0x60 else 0)))
    ∧ Completes (.das rd) s fun t =>
      OnlyByte s t rd (t.r8 rd)
      ∧ FlagsAre s t (t.flag .h) (t.r8 rd).msb (decide (t.r8 rd = 0)) (t.flag .v) (t.flag .c) ∧ Quiet s t
      ∧ (s.params.dasAdjust ≠ .anyValue → t.flag .h = s.flag .h ∧ t.flag .v = s.flag .v)
      ∧ (∀ x, GivenAt s.params.dasAdjust ⟨s.flag .c, s.flag .h, s.r8 rd⟩ x →
          t.r8 rd = s.r8 rd + x.addend ∧ t.flag .c = x.cAfter)
      ∧ (∀ x, FollowsTable s.params.dasAdjust dasTable →
          tableAdjust dasTable ⟨s.flag .c, s.flag .h, s.r8 rd⟩ = some x →
          t.r8 rd = s.r8 rd + x.addend ∧ t.flag .c = x.cAfter)
      ∧ (DefaultAt s.params.dasAdjust ⟨s.flag .c, s.flag .h, s.r8 rd⟩ →
          t.flag .c = s.flag .c
          ∧ t.r8 rd = s.r8 rd + (if s.flag .h then 0xFA else 0) + (if s.flag .c then 0xA0 else 0))

/-- R185, R186: an ADDX and a DAA add two packed-BCD bytes and the carry; a SUBX and a DAS subtract them; C is the
decimal carry or borrow. It holds under every setting of the parameters but a function passed that contradicts the
tables: no free value is used. -/
def Obligations.DecimalSums : Prop :=
  ∀ (s : State) (rs rd : Reg4), isBcd (s.r8 rd) = true → isBcd (s.r8 rs) = true →
    (FollowsTable s.params.daaAdjust daaTable →
      Completes (.addx_rs_rd rs rd) s fun t => Completes (.daa rd) t fun u =>
      isBcd (u.r8 rd) = true
      ∧ bcdValue (u.r8 rd) = (bcdValue (s.r8 rd) + bcdValue (s.r8 rs) + (s.flag .c).toNat) % 100
      ∧ (u.flag .c ↔ 100 ≤ bcdValue (s.r8 rd) + bcdValue (s.r8 rs) + (s.flag .c).toNat))
    ∧ (FollowsTable s.params.dasAdjust dasTable →
      Completes (.subx_rs_rd rs rd) s fun t => Completes (.das rd) t fun u =>
      isBcd (u.r8 rd) = true
      ∧ bcdValue (u.r8 rd)
          = (100 + bcdValue (s.r8 rd) - bcdValue (s.r8 rs) - (s.flag .c).toNat) % 100
      ∧ (u.flag .c ↔ bcdValue (s.r8 rd) < bcdValue (s.r8 rs) + (s.flag .c).toNat))

/-- R187, R188, R194, R195: the products, which always fit their destination, and the flags. -/
def Obligations.Multiply : Prop :=
  ∀ s : State,
    (∀ rs rd, Completes (.mulxuB_rs_rd rs rd) s fun t =>
      OnlyWord s t rd (t.r16 rd) ∧ (t.r16 rd).toNat = (s.r16 rd).toNat % 256 * (s.r8 rs).toNat
        ∧ SameFlags s t ∧ Quiet s t)
    ∧ (∀ rs erd, Completes (.mulxuW_rs_erd rs erd) s fun t =>
      OnlyLong s t erd (t.reg erd) ∧ (t.reg erd).toNat = (s.reg erd).toNat % 65536 * (s.r16 rs).toNat
        ∧ SameFlags s t ∧ Quiet s t)
    ∧ (∀ rs rd, Completes (.mulxsB_rs_rd rs rd) s fun t =>
      ∀ p : Int, p = ((s.r16 rd).extractLsb' 0 8).toInt * (s.r8 rs).toInt →
      OnlyWord s t rd (t.r16 rd) ∧ (t.r16 rd).toInt = p
        ∧ FlagsAre s t (s.flag .h) (decide (p < 0)) (decide (p = 0)) (s.flag .v) (s.flag .c) ∧ Quiet s t)
    ∧ (∀ rs erd, Completes (.mulxsW_rs_erd rs erd) s fun t =>
      ∀ p : Int, p = ((s.reg erd).extractLsb' 0 16).toInt * (s.r16 rs).toInt →
      OnlyLong s t erd (t.reg erd) ∧ (t.reg erd).toInt = p
        ∧ FlagsAre s t (s.flag .h) (decide (p < 0)) (decide (p = 0)) (s.flag .v) (s.flag .c) ∧ Quiet s t)

/-- R190, R191, R189: DIVXU. The remainder goes to the high half, the quotient to the low half. On a zero divisor and on
a quotient that does not fit, the destination is what the function passed as `div_corner` gives, by default what the
default says, and open under `anyValue`. Any function of the operands can be passed (R6). -/
def Obligations.DivideUnsigned : Prop :=
  (∀ f : DivideInput → Long, ∃ table : List (DivideInput × Long), ∀ k, table.lookup k = some (f k)) ∧
  ∀ s : State,
    (∀ rs rd, Completes (.divxuB_rs_rd rs rd) s fun t =>
      ∀ n m : Nat, n = (s.r16 rd).toNat → m = (s.r8 rs).toNat →
      ∀ k : DivideInput, k = ⟨false, false, (s.r16 rd).setWidth 32, (s.r8 rs).setWidth 16⟩ →
      OnlyWord s t rd (t.r16 rd) ∧ Quiet s t
      ∧ FlagsAre s t (s.flag .h) (t.flag .n) (t.flag .z) (s.flag .v) (s.flag .c)
      ∧ (n / m ≤ 0xFF ∨ s.params.divCorner ≠ .anyValue →
          t.flag .n = (s.r8 rs).msb ∧ (t.flag .z ↔ m = 0))
      ∧ (m = 0 → DefaultAt s.params.divCorner k → t.r16 rd = s.r16 rd)
      ∧ (m = 0 ∨ 0xFF < n / m →
          ∀ v, GivenAt s.params.divCorner k v → t.r16 rd = v.setWidth 16)
      ∧ (m ≠ 0 → n / m ≤ 0xFF ∨ DefaultAt s.params.divCorner k →
          t.r16 rd = BitVec.ofNat 8 (n % m) ++ BitVec.ofNat 8 (n / m)))
    ∧ (∀ rs erd, Completes (.divxuW_rs_erd rs erd) s fun t =>
      ∀ n m : Nat, n = (s.reg erd).toNat → m = (s.r16 rs).toNat →
      ∀ k : DivideInput, k = ⟨false, true, s.reg erd, s.r16 rs⟩ →
      OnlyLong s t erd (t.reg erd) ∧ Quiet s t
      ∧ FlagsAre s t (s.flag .h) (t.flag .n) (t.flag .z) (s.flag .v) (s.flag .c)
      ∧ (n / m ≤ 0xFFFF ∨ s.params.divCorner ≠ .anyValue →
          t.flag .n = (s.r16 rs).msb ∧ (t.flag .z ↔ m = 0))
      ∧ (m = 0 → DefaultAt s.params.divCorner k → t.reg erd = s.reg erd)
      ∧ (m = 0 ∨ 0xFFFF < n / m →
          ∀ v, GivenAt s.params.divCorner k v → t.reg erd = v)
      ∧ (m ≠ 0 → n / m ≤ 0xFFFF ∨ DefaultAt s.params.divCorner k →
          t.reg erd = BitVec.ofNat 16 (n % m) ++ BitVec.ofNat 16 (n / m)))

/-- R192, R193, R189: DIVXS truncates toward zero, and the remainder has the dividend's sign; N follows `divxs_n_rule`.
The corners are as in `DivideUnsigned`. -/
def Obligations.DivideSigned : Prop :=
  ∀ s : State,
    (∀ rs rd, Completes (.divxsB_rs_rd rs rd) s fun t =>
      ∀ n m : Int, n = (s.r16 rd).toInt → m = (s.r8 rs).toInt →
      ∀ k : DivideInput, k = ⟨true, false, (s.r16 rd).setWidth 32, (s.r8 rs).setWidth 16⟩ →
      OnlyWord s t rd (t.r16 rd) ∧ Quiet s t
      ∧ FlagsAre s t (s.flag .h) (t.flag .n) (t.flag .z) (s.flag .v) (s.flag .c)
      ∧ (m = 0 ∨ (-128 ≤ n.tdiv m ∧ n.tdiv m ≤ 127) ∨ s.params.divCorner ≠ .anyValue →
          (t.flag .z ↔ m = 0)
          ∧ (s.params.divxsN = .quotientSign → (t.flag .n ↔ m ≠ 0 ∧ n.tdiv m < 0))
          ∧ (s.params.divxsN = .operandSignXor → t.flag .n = ((s.r16 rd).msb ^^ (s.r8 rs).msb)))
      ∧ (m = 0 → DefaultAt s.params.divCorner k → t.r16 rd = s.r16 rd)
      ∧ (m = 0 ∨ n.tdiv m < -128 ∨ 127 < n.tdiv m →
          ∀ v, GivenAt s.params.divCorner k v → t.r16 rd = v.setWidth 16)
      ∧ (m ≠ 0 → (-128 ≤ n.tdiv m ∧ n.tdiv m ≤ 127) ∨ DefaultAt s.params.divCorner k →
          t.r16 rd = BitVec.ofInt 8 (n.tmod m) ++ BitVec.ofInt 8 (n.tdiv m)))
    ∧ (∀ rs erd, Completes (.divxsW_rs_erd rs erd) s fun t =>
      ∀ n m : Int, n = (s.reg erd).toInt → m = (s.r16 rs).toInt →
      ∀ k : DivideInput, k = ⟨true, true, s.reg erd, s.r16 rs⟩ →
      OnlyLong s t erd (t.reg erd) ∧ Quiet s t
      ∧ FlagsAre s t (s.flag .h) (t.flag .n) (t.flag .z) (s.flag .v) (s.flag .c)
      ∧ (m = 0 ∨ (-32768 ≤ n.tdiv m ∧ n.tdiv m ≤ 32767) ∨ s.params.divCorner ≠ .anyValue →
          (t.flag .z ↔ m = 0)
          ∧ (s.params.divxsN = .quotientSign → (t.flag .n ↔ m ≠ 0 ∧ n.tdiv m < 0))
          ∧ (s.params.divxsN = .operandSignXor → t.flag .n = ((s.reg erd).msb ^^ (s.r16 rs).msb)))
      ∧ (m = 0 → DefaultAt s.params.divCorner k → t.reg erd = s.reg erd)
      ∧ (m = 0 ∨ n.tdiv m < -32768 ∨ 32767 < n.tdiv m →
          ∀ v, GivenAt s.params.divCorner k v → t.reg erd = v)
      ∧ (m ≠ 0 → (-32768 ≤ n.tdiv m ∧ n.tdiv m ≤ 32767) ∨ DefaultAt s.params.divCorner k →
          t.reg erd = BitVec.ofInt 16 (n.tmod m) ++ BitVec.ofInt 16 (n.tdiv m)))

/-- R202, R203: EXTU and EXTS; the value is kept as a number, unsigned or signed. -/
def Obligations.Extend : Prop :=
  ∀ s : State,
    (∀ rd, Completes (.extuW rd) s fun t =>
      OnlyWord s t rd (t.r16 rd) ∧ (t.r16 rd).toNat = (s.r16 rd).toNat % 256
        ∧ FlagsAre s t (s.flag .h) false (decide (t.r16 rd = 0)) false (s.flag .c) ∧ Quiet s t)
    ∧ (∀ erd, Completes (.extuL erd) s fun t =>
      OnlyLong s t erd (t.reg erd) ∧ (t.reg erd).toNat = (s.reg erd).toNat % 65536
        ∧ FlagsAre s t (s.flag .h) false (decide (t.reg erd = 0)) false (s.flag .c) ∧ Quiet s t)
    ∧ (∀ rd, Completes (.extsW rd) s fun t =>
      OnlyWord s t rd (t.r16 rd) ∧ (t.r16 rd).toInt = ((s.r16 rd).extractLsb' 0 8).toInt
        ∧ MoveFlags s t (t.r16 rd) ∧ Quiet s t)
    ∧ (∀ erd, Completes (.extsL erd) s fun t =>
      OnlyLong s t erd (t.reg erd) ∧ (t.reg erd).toInt = ((s.reg erd).extractLsb' 0 16).toInt
        ∧ MoveFlags s t (t.reg erd) ∧ Quiet s t)

/-! ## Logic, shifts and rotates -/

/-- R211 to R220: AND, OR, XOR and NOT. -/
def Obligations.Logic : Prop :=
  (∀ (s : State) (i : Instr) (rd : Reg4) (r : Byte),
    ((∃ imm, i = .andB_imm_rd imm rd ∧ r = s.r8 rd &&& imm)
      ∨ (∃ rs, i = .andB_rs_rd rs rd ∧ r = s.r8 rd &&& s.r8 rs)
      ∨ (∃ imm, i = .orB_imm_rd imm rd ∧ r = s.r8 rd ||| imm)
      ∨ (∃ rs, i = .orB_rs_rd rs rd ∧ r = s.r8 rd ||| s.r8 rs)
      ∨ (∃ imm, i = .xorB_imm_rd imm rd ∧ r = s.r8 rd ^^^ imm)
      ∨ (∃ rs, i = .xorB_rs_rd rs rd ∧ r = s.r8 rd ^^^ s.r8 rs)
      ∨ (i = .notB rd ∧ r = ~~~(s.r8 rd))) →
    Completes i s fun t => OnlyByte s t rd r ∧ MoveFlags s t r ∧ Quiet s t) ∧
  (∀ (s : State) (i : Instr) (rd : Reg4) (r : Word),
    ((∃ imm, i = .andW_imm_rd imm rd ∧ r = s.r16 rd &&& imm)
      ∨ (∃ rs, i = .andW_rs_rd rs rd ∧ r = s.r16 rd &&& s.r16 rs)
      ∨ (∃ imm, i = .orW_imm_rd imm rd ∧ r = s.r16 rd ||| imm)
      ∨ (∃ rs, i = .orW_rs_rd rs rd ∧ r = s.r16 rd ||| s.r16 rs)
      ∨ (∃ imm, i = .xorW_imm_rd imm rd ∧ r = s.r16 rd ^^^ imm)
      ∨ (∃ rs, i = .xorW_rs_rd rs rd ∧ r = s.r16 rd ^^^ s.r16 rs)
      ∨ (i = .notW rd ∧ r = ~~~(s.r16 rd))) →
    Completes i s fun t => OnlyWord s t rd r ∧ MoveFlags s t r ∧ Quiet s t) ∧
  ∀ (s : State) (i : Instr) (erd : Reg3) (r : Long),
    ((∃ imm, i = .andL_imm_erd imm erd ∧ r = s.reg erd &&& imm)
      ∨ (∃ ers, i = .andL_ers_erd ers erd ∧ r = s.reg erd &&& s.reg ers)
      ∨ (∃ imm, i = .orL_imm_erd imm erd ∧ r = s.reg erd ||| imm)
      ∨ (∃ ers, i = .orL_ers_erd ers erd ∧ r = s.reg erd ||| s.reg ers)
      ∨ (∃ imm, i = .xorL_imm_erd imm erd ∧ r = s.reg erd ^^^ imm)
      ∨ (∃ ers, i = .xorL_ers_erd ers erd ∧ r = s.reg erd ^^^ s.reg ers)
      ∨ (i = .notL erd ∧ r = ~~~(s.reg erd))) →
    Completes i s fun t => OnlyLong s t erd r ∧ MoveFlags s t r ∧ Quiet s t

/-- R221 to R228, at one width: what shift or rotate `i` of a register whose value is `a` writes back, and its V and
C, bit by bit; `cin` is C before. -/
def Obligations.ShiftsRotates : Prop :=
  (∀ (s : State) (rd : Reg4) (i : Instr) (r : Byte) (v c : Bool),
    (i = .shalB rd ∧ r = s.r8 rd <<< 1 ∧ v = ((s.r8 rd).getLsbD 7 != (s.r8 rd).getLsbD 6)
        ∧ c = (s.r8 rd).getLsbD 7
      ∨ i = .sharB rd ∧ r = (s.r8 rd).sshiftRight 1 ∧ v = false ∧ c = (s.r8 rd).getLsbD 0
      ∨ i = .shllB rd ∧ r = s.r8 rd <<< 1 ∧ v = false ∧ c = (s.r8 rd).getLsbD 7
      ∨ i = .shlrB rd ∧ r = s.r8 rd >>> 1 ∧ v = false ∧ c = (s.r8 rd).getLsbD 0
      ∨ i = .rotlB rd ∧ r = (s.r8 rd).rotateLeft 1 ∧ v = false ∧ c = (s.r8 rd).getLsbD 7
      ∨ i = .rotrB rd ∧ r = (s.r8 rd).rotateRight 1 ∧ v = false ∧ c = (s.r8 rd).getLsbD 0
      ∨ i = .rotxlB rd ∧ r = (s.r8 rd).extractLsb' 0 7 ++ BitVec.ofBool (s.flag .c) ∧ v = false
        ∧ c = (s.r8 rd).getLsbD 7
      ∨ i = .rotxrB rd ∧ r = BitVec.ofBool (s.flag .c) ++ (s.r8 rd).extractLsb' 1 7 ∧ v = false
        ∧ c = (s.r8 rd).getLsbD 0) →
    Completes i s fun t => OnlyByte s t rd r
      ∧ FlagsAre s t (s.flag .h) (r.getLsbD 7) (decide (r = 0)) v c ∧ Quiet s t) ∧
  (∀ (s : State) (rd : Reg4) (i : Instr) (r : Word) (v c : Bool),
    (i = .shalW rd ∧ r = s.r16 rd <<< 1 ∧ v = ((s.r16 rd).getLsbD 15 != (s.r16 rd).getLsbD 14)
        ∧ c = (s.r16 rd).getLsbD 15
      ∨ i = .sharW rd ∧ r = (s.r16 rd).sshiftRight 1 ∧ v = false ∧ c = (s.r16 rd).getLsbD 0
      ∨ i = .shllW rd ∧ r = s.r16 rd <<< 1 ∧ v = false ∧ c = (s.r16 rd).getLsbD 15
      ∨ i = .shlrW rd ∧ r = s.r16 rd >>> 1 ∧ v = false ∧ c = (s.r16 rd).getLsbD 0
      ∨ i = .rotlW rd ∧ r = (s.r16 rd).rotateLeft 1 ∧ v = false ∧ c = (s.r16 rd).getLsbD 15
      ∨ i = .rotrW rd ∧ r = (s.r16 rd).rotateRight 1 ∧ v = false ∧ c = (s.r16 rd).getLsbD 0
      ∨ i = .rotxlW rd ∧ r = (s.r16 rd).extractLsb' 0 15 ++ BitVec.ofBool (s.flag .c) ∧ v = false
        ∧ c = (s.r16 rd).getLsbD 15
      ∨ i = .rotxrW rd ∧ r = BitVec.ofBool (s.flag .c) ++ (s.r16 rd).extractLsb' 1 15 ∧ v = false
        ∧ c = (s.r16 rd).getLsbD 0) →
    Completes i s fun t => OnlyWord s t rd r
      ∧ FlagsAre s t (s.flag .h) (r.getLsbD 15) (decide (r = 0)) v c ∧ Quiet s t) ∧
  ∀ (s : State) (erd : Reg3) (i : Instr) (r : Long) (v c : Bool),
    (i = .shalL erd ∧ r = s.reg erd <<< 1 ∧ v = ((s.reg erd).getLsbD 31 != (s.reg erd).getLsbD 30)
        ∧ c = (s.reg erd).getLsbD 31
      ∨ i = .sharL erd ∧ r = (s.reg erd).sshiftRight 1 ∧ v = false ∧ c = (s.reg erd).getLsbD 0
      ∨ i = .shllL erd ∧ r = s.reg erd <<< 1 ∧ v = false ∧ c = (s.reg erd).getLsbD 31
      ∨ i = .shlrL erd ∧ r = s.reg erd >>> 1 ∧ v = false ∧ c = (s.reg erd).getLsbD 0
      ∨ i = .rotlL erd ∧ r = (s.reg erd).rotateLeft 1 ∧ v = false ∧ c = (s.reg erd).getLsbD 31
      ∨ i = .rotrL erd ∧ r = (s.reg erd).rotateRight 1 ∧ v = false ∧ c = (s.reg erd).getLsbD 0
      ∨ i = .rotxlL erd ∧ r = (s.reg erd).extractLsb' 0 31 ++ BitVec.ofBool (s.flag .c) ∧ v = false
        ∧ c = (s.reg erd).getLsbD 31
      ∨ i = .rotxrL erd ∧ r = BitVec.ofBool (s.flag .c) ++ (s.reg erd).extractLsb' 1 31 ∧ v = false
        ∧ c = (s.reg erd).getLsbD 0) →
    Completes i s fun t => OnlyLong s t erd r
      ∧ FlagsAre s t (s.flag .h) (r.getLsbD 31) (decide (r = 0)) v c ∧ Quiet s t

/-! ## Bit manipulation -/

/-- R241 to R244, R254, R255: the five instructions that write a bit of a byte register. `n` is the bit number, `x` the
new bit; the other seven bits are kept. -/
def Obligations.BitWritesRegister : Prop :=
  ∀ (s : State) (i : Instr) (rd : Reg4) (n : Nat) (x : Bool),
    ((∃ bit : BitVec 3, n = bit.toNat
        ∧ (i = .bset_imm_rd bit rd ∧ x = true ∨ i = .bclr_imm_rd bit rd ∧ x = false
          ∨ i = .bnot_imm_rd bit rd ∧ x = !(s.r8 rd).getLsbD n
          ∨ i = .bst_imm_rd bit rd ∧ x = s.flag .c ∨ i = .bist_imm_rd bit rd ∧ x = !s.flag .c))
      ∨ (∃ rn : Reg4, n = (s.r8 rn).toNat % 8
        ∧ (i = .bset_rn_rd rn rd ∧ x = true ∨ i = .bclr_rn_rd rn rd ∧ x = false
          ∨ i = .bnot_rn_rd rn rd ∧ x = !(s.r8 rd).getLsbD n))) →
    Completes i s fun t => OnlyByte s t rd (t.r8 rd)
      ∧ (∀ k < 8, (t.r8 rd).getLsbD k = if k = n then x else (s.r8 rd).getLsbD k)
      ∧ SameFlags s t ∧ Quiet s t

/-- R241 to R244, R254 to R256: the same five on a byte of memory. The byte is read, which clears RDRF if it is SSRDR,
and the changed byte is always written back to the same address. -/
def Obligations.BitWritesMemory : Prop :=
  ∀ (s : State) (i : Instr) (ea : Word) (n : Nat) (x : Bool),
    ((∃ (bit : BitVec 3) (erd : Reg3), n = bit.toNat ∧ ea = s.eaInd erd
        ∧ (i = .bset_imm_ind bit erd ∧ x = true ∨ i = .bclr_imm_ind bit erd ∧ x = false
          ∨ i = .bnot_imm_ind bit erd ∧ x = !(s.read8 ea).1.getLsbD n
          ∨ i = .bst_imm_ind bit erd ∧ x = s.flag .c ∨ i = .bist_imm_ind bit erd ∧ x = !s.flag .c))
      ∨ (∃ (bit : BitVec 3) (aa : Byte), n = bit.toNat ∧ ea = eaAa8 aa
        ∧ (i = .bset_imm_aa8 bit aa ∧ x = true ∨ i = .bclr_imm_aa8 bit aa ∧ x = false
          ∨ i = .bnot_imm_aa8 bit aa ∧ x = !(s.read8 ea).1.getLsbD n
          ∨ i = .bst_imm_aa8 bit aa ∧ x = s.flag .c ∨ i = .bist_imm_aa8 bit aa ∧ x = !s.flag .c))
      ∨ (∃ (rn : Reg4) (erd : Reg3), n = (s.r8 rn).toNat % 8 ∧ ea = s.eaInd erd
        ∧ (i = .bset_rn_ind rn erd ∧ x = true ∨ i = .bclr_rn_ind rn erd ∧ x = false
          ∨ i = .bnot_rn_ind rn erd ∧ x = !(s.read8 ea).1.getLsbD n))
      ∨ (∃ (rn : Reg4) (aa : Byte), n = (s.r8 rn).toNat % 8 ∧ ea = eaAa8 aa
        ∧ (i = .bset_rn_aa8 rn aa ∧ x = true ∨ i = .bclr_rn_aa8 rn aa ∧ x = false
          ∨ i = .bnot_rn_aa8 rn aa ∧ x = !(s.read8 ea).1.getLsbD n))) →
    Completes i s fun t => NoRegister s t ∧ SameFlags s t
      ∧ ∃ b : Byte, (∀ k < 8, b.getLsbD k = if k = n then x else (s.read8 ea).1.getLsbD k)
        ∧ QuietStore (s.read8 ea).2 t [(ea, b)]

/-- R241, R245: BTST writes Z with the complement of the bit, and nothing else. -/
def Obligations.BitTests : Prop :=
  (∀ (s : State) (i : Instr) (rd : Reg4) (n : Nat),
    ((∃ bit : BitVec 3, i = .btst_imm_rd bit rd ∧ n = bit.toNat)
      ∨ (∃ rn, i = .btst_rn_rd rn rd ∧ n = (s.r8 rn).toNat % 8)) →
    Completes i s fun t => NoRegister s t
      ∧ FlagsAre s t (s.flag .h) (s.flag .n) (!(s.r8 rd).getLsbD n) (s.flag .v) (s.flag .c) ∧ Quiet s t) ∧
  ∀ (s : State) (i : Instr) (ea : Word) (n : Nat),
    ((∃ (bit : BitVec 3) (erd : Reg3), i = .btst_imm_ind bit erd ∧ n = bit.toNat ∧ ea = s.eaInd erd)
      ∨ (∃ (bit : BitVec 3) (aa : Byte), i = .btst_imm_aa8 bit aa ∧ n = bit.toNat ∧ ea = eaAa8 aa)
      ∨ (∃ (rn : Reg4) (erd : Reg3), i = .btst_rn_ind rn erd ∧ n = (s.r8 rn).toNat % 8 ∧ ea = s.eaInd erd)
      ∨ (∃ (rn : Reg4) (aa : Byte), i = .btst_rn_aa8 rn aa ∧ n = (s.r8 rn).toNat % 8 ∧ ea = eaAa8 aa)) →
    Completes i s fun t => NoRegister s t
      ∧ FlagsAre s t (s.flag .h) (s.flag .n) (!(s.read8 ea).1.getLsbD n) (s.flag .v) (s.flag .c)
      ∧ QuietRead s t (ea = 0xF0E9)

/-- R241, R246 to R253: the eight instructions that combine C with a bit, on a register (`b` its byte) and on memory
(`b` the byte read). -/
def Obligations.BitLogicIntoCarry : Prop :=
  (∀ (s : State) (i : Instr) (bit : BitVec 3) (rd : Reg4) (b c : Bool),
    b = (s.r8 rd).getLsbD bit.toNat →
    (i = .band_imm_rd bit rd ∧ c = (s.flag .c && b) ∨ i = .biand_imm_rd bit rd ∧ c = (s.flag .c && !b)
      ∨ i = .bor_imm_rd bit rd ∧ c = (s.flag .c || b) ∨ i = .bior_imm_rd bit rd ∧ c = (s.flag .c || !b)
      ∨ i = .bxor_imm_rd bit rd ∧ c = (s.flag .c ^^ b) ∨ i = .bixor_imm_rd bit rd ∧ c = (s.flag .c ^^ !b)
      ∨ i = .bld_imm_rd bit rd ∧ c = b ∨ i = .bild_imm_rd bit rd ∧ c = !b) →
    Completes i s fun t => NoRegister s t
      ∧ FlagsAre s t (s.flag .h) (s.flag .n) (s.flag .z) (s.flag .v) c ∧ Quiet s t) ∧
  ∀ (s : State) (i : Instr) (bit : BitVec 3) (ea : Word) (b c : Bool),
    b = (s.read8 ea).1.getLsbD bit.toNat →
    ((∃ erd : Reg3, ea = s.eaInd erd
        ∧ (i = .band_imm_ind bit erd ∧ c = (s.flag .c && b) ∨ i = .biand_imm_ind bit erd ∧ c = (s.flag .c && !b)
          ∨ i = .bor_imm_ind bit erd ∧ c = (s.flag .c || b) ∨ i = .bior_imm_ind bit erd ∧ c = (s.flag .c || !b)
          ∨ i = .bxor_imm_ind bit erd ∧ c = (s.flag .c ^^ b)
          ∨ i = .bixor_imm_ind bit erd ∧ c = (s.flag .c ^^ !b)
          ∨ i = .bld_imm_ind bit erd ∧ c = b ∨ i = .bild_imm_ind bit erd ∧ c = !b))
      ∨ (∃ aa : Byte, ea = eaAa8 aa
        ∧ (i = .band_imm_aa8 bit aa ∧ c = (s.flag .c && b) ∨ i = .biand_imm_aa8 bit aa ∧ c = (s.flag .c && !b)
          ∨ i = .bor_imm_aa8 bit aa ∧ c = (s.flag .c || b) ∨ i = .bior_imm_aa8 bit aa ∧ c = (s.flag .c || !b)
          ∨ i = .bxor_imm_aa8 bit aa ∧ c = (s.flag .c ^^ b)
          ∨ i = .bixor_imm_aa8 bit aa ∧ c = (s.flag .c ^^ !b)
          ∨ i = .bld_imm_aa8 bit aa ∧ c = b ∨ i = .bild_imm_aa8 bit aa ∧ c = !b))) →
    Completes i s fun t => NoRegister s t
      ∧ FlagsAre s t (s.flag .h) (s.flag .n) (s.flag .z) (s.flag .v) c ∧ QuietRead s t (ea = 0xF0E9)

/-! ## Control transfer -/

/-- R261, R262: the sixteen branches in their two forms; nothing but PC changes, and that only when the condition
holds. -/
def Obligations.Branches : Prop :=
  BranchesWhen .bra_d8 .bra_d16 (fun _ => True)
  ∧ BranchesWhen .brn_d8 .brn_d16 (fun _ => False)
  ∧ BranchesWhen .bhi_d8 .bhi_d16 (fun s => ¬ (s.flag .c = true ∨ s.flag .z = true))
  ∧ BranchesWhen .bls_d8 .bls_d16 (fun s => s.flag .c = true ∨ s.flag .z = true)
  ∧ BranchesWhen .bcc_d8 .bcc_d16 (fun s => s.flag .c = false)
  ∧ BranchesWhen .bcs_d8 .bcs_d16 (fun s => s.flag .c = true)
  ∧ BranchesWhen .bne_d8 .bne_d16 (fun s => s.flag .z = false)
  ∧ BranchesWhen .beq_d8 .beq_d16 (fun s => s.flag .z = true)
  ∧ BranchesWhen .bvc_d8 .bvc_d16 (fun s => s.flag .v = false)
  ∧ BranchesWhen .bvs_d8 .bvs_d16 (fun s => s.flag .v = true)
  ∧ BranchesWhen .bpl_d8 .bpl_d16 (fun s => s.flag .n = false)
  ∧ BranchesWhen .bmi_d8 .bmi_d16 (fun s => s.flag .n = true)
  ∧ BranchesWhen .bge_d8 .bge_d16 (fun s => s.flag .n = s.flag .v)
  ∧ BranchesWhen .blt_d8 .blt_d16 (fun s => s.flag .n ≠ s.flag .v)
  ∧ BranchesWhen .bgt_d8 .bgt_d16 (fun s => s.flag .z = false ∧ s.flag .n = s.flag .v)
  ∧ BranchesWhen .ble_d8 .ble_d16 (fun s => s.flag .z = true ∨ s.flag .n ≠ s.flag .v)

/-- R263, R264, R265, R266: jumps write PC alone; calls push PC bits 15:0 on the stack that ER7 points at and then write
PC. The target is found before the push. -/
def Obligations.JumpsAndCalls : Prop :=
  (∀ (s : State) (i : Instr) (target : Long),
    ((∃ ern, i = .jmp_ind ern ∧ target = s.reg ern)
      ∨ (∃ aa : BitVec 24, i = .jmp_aa24 aa ∧ target = aa.setWidth 32)
      ∨ (∃ aa : Byte, i = .jmp_memInd aa ∧ target = (wordAt s (aa.setWidth 16)).setWidth 32)) →
    Completes i s fun t => t = { s with pc := wrap24 target }) ∧
  ∀ (s : State) (i : Instr) (target : Long),
    ((∃ ern, i = .jsr_ind ern ∧ target = s.reg ern)
      ∨ (∃ aa : BitVec 24, i = .jsr_aa24 aa ∧ target = aa.setWidth 32)
      ∨ (∃ aa : Byte, i = .jsr_memInd aa ∧ target = (wordAt s (aa.setWidth 16)).setWidth 32)
      ∨ (∃ d : Byte, i = .bsr_d8 d ∧ target = s.pc + d.signExtend 32)
      ∨ (∃ d : Word, i = .bsr_d16 d ∧ target = s.pc + d.signExtend 32)) →
    Completes i s fun t => t.pc = wrap24 target ∧ OnlyLong s t 7 (s.reg 7 - 2) ∧ SameFlags s t
      ∧ StoreWorld s t (wordBytes ((s.reg 7 - 2).extractLsb' 0 16) (s.pc.extractLsb' 0 16))

/-- R267, R268, R260: RTS pops PC; RTE pops CCR from the low byte of a word, then PC. -/
def Obligations.Returns : Prop :=
  ∀ s : State,
    (Completes .rts s fun t =>
      t.pc = (wordAt s (s.eaInd 7)).setWidth 32 ∧ OnlyLong s t 7 (s.reg 7 + 2) ∧ SameFlags s t
        ∧ ReadWorld s t (touchesW (s.eaInd 7)))
    ∧ (Completes .rte s fun t =>
      t.ccr = (wordAt s (s.eaInd 7)).extractLsb' 0 8
        ∧ t.pc = (wordAt s (s.eaInd 7 + 2)).setWidth 32 ∧ OnlyLong s t 7 (s.reg 7 + 4)
        ∧ ReadWorld s t (touchesL (s.eaInd 7)))

/-- R163, R260, R264 to R267: a PUSH and a POP of the same register, word or long, restore it and ER7 when the stack is in
RAM and the register is not ER7; a call and a return come back to the address after the call. -/
def Obligations.StackRoundTrips : Prop :=
  (∀ (s : State) (rn : Reg4), InRam (evenAddr ((s.reg 7 - 2).setWidth 16)) → viewReg rn ≠ 7 →
    Completes (.movW_rs_preDec rn 7) s fun t => Completes (.movW_postInc_rd 7 rn) t fun u => NoRegister s u) ∧
  (∀ (s : State) (ern : Reg3), InRam (evenAddr ((s.reg 7 - 4).setWidth 16)) →
    InRam (evenAddr ((s.reg 7 - 2).setWidth 16)) → ern ≠ 7 →
    Completes (.movL_ers_preDec ern 7) s fun t => Completes (.movL_postInc_erd 7 ern) t fun u => NoRegister s u) ∧
  ∀ (s : State) (i : Instr), InRam (evenAddr ((s.reg 7 - 2).setWidth 16)) →
    ((∃ ern, i = .jsr_ind ern) ∨ (∃ aa, i = .jsr_aa24 aa) ∨ (∃ aa, i = .jsr_memInd aa)
      ∨ (∃ d, i = .bsr_d8 d) ∨ (∃ d, i = .bsr_d16 d)) →
    Completes i s fun t => Completes .rts t fun u =>
      u.pc = (s.pc.extractLsb' 0 16).setWidth 32 ∧ NoRegister s u ∧ SameFlags s u

/-! ## System instructions -/

/-- R281 to R284, R286, R288 to R290: the instructions on CCR with a register or an immediate, and the three that do
nothing in this core. -/
def Obligations.SystemInstructions : Prop :=
  ∀ s : State,
    (∀ imm, exec (.andc imm) s = .next { s with ccr := s.ccr &&& imm })
    ∧ (∀ imm, exec (.orc imm) s = .next { s with ccr := s.ccr ||| imm })
    ∧ (∀ imm, exec (.xorc imm) s = .next { s with ccr := s.ccr ^^^ imm })
    ∧ (∀ imm, exec (.ldc_imm imm) s = .next { s with ccr := imm })
    ∧ (∀ rs, exec (.ldc_rs rs) s = .next { s with ccr := s.r8 rs })
    ∧ (∀ rd, Completes (.stc_rd rd) s fun t => OnlyByte s t rd s.ccr ∧ SameFlags s t ∧ Quiet s t)
    ∧ exec .nop s = .next s ∧ exec .sleep s = .next s ∧ ∀ vec, exec (.trapa vec) s = .next s

/-- R285, R287: LDC and STC with memory. A word access: LDC takes the byte at the even address, STC writes CCR into both
bytes. -/
def Obligations.CcrAndMemory : Prop :=
  (∀ (s : State) (i : Instr) (ea : Word),
    ((∃ ers, i = .ldc_ind ers ∧ ea = s.eaInd ers) ∨ (∃ d ers, i = .ldc_d16 d ers ∧ ea = s.eaD16 d ers)
      ∨ (∃ d ers, i = .ldc_d24 d ers ∧ ea = s.eaD24 d ers) ∨ (∃ aa, i = .ldc_aa16 aa ∧ ea = eaAa16 aa)
      ∨ (∃ aa, i = .ldc_aa24 aa ∧ ea = eaAa24 aa)) →
    Completes i s fun t => t.ccr = (s.read8 (evenAddr ea)).1 ∧ NoRegister s t ∧ QuietRead s t (touchesW ea)) ∧
  (∀ (s : State) (ers : Reg3), Completes (.ldc_postInc ers) s fun t =>
    t.ccr = (s.read8 (evenAddr (s.eaInd ers))).1 ∧ OnlyLong s t ers (s.reg ers + 2)
      ∧ QuietRead s t (touchesW (s.eaInd ers))) ∧
  (∀ (s : State) (i : Instr) (ea : Word),
    ((∃ erd, i = .stc_ind erd ∧ ea = s.eaInd erd) ∨ (∃ d erd, i = .stc_d16 d erd ∧ ea = s.eaD16 d erd)
      ∨ (∃ d erd, i = .stc_d24 d erd ∧ ea = s.eaD24 d erd) ∨ (∃ aa, i = .stc_aa16 aa ∧ ea = eaAa16 aa)
      ∨ (∃ aa, i = .stc_aa24 aa ∧ ea = eaAa24 aa)) →
    Completes i s fun t => NoRegister s t ∧ SameFlags s t
      ∧ QuietStore s t [(evenAddr ea, s.ccr), (oddAddr ea, s.ccr)]) ∧
  ∀ (s : State) (erd : Reg3), Completes (.stc_preDec erd) s fun t =>
    OnlyLong s t erd (s.reg erd - 2) ∧ SameFlags s t
      ∧ QuietStore s t [(evenAddr ((s.reg erd - 2).setWidth 16), s.ccr),
          (oddAddr ((s.reg erd - 2).setWidth 16), s.ccr)]

/-- R291, R292, R293: EEPMOV. `n` is the count, `src` and `dst` the addresses of the two blocks. The registers, the
flags and the bytes outside the destination block are as said in every case, SSSR apart, and a destination byte in
neither RAM nor the SSU is dropped. With the destination in RAM, from any source: byte `k` of it is byte `k % d` of the
source, `d` being how far the destination lies above the source, so that a block moved up by one replicates its first
byte; if none of the block is overwritten before it is read, the block is copied. The SSU: with no destination byte in
it, it is as before, but for RDRF if SSRDR was read; with any destination, and no source byte overwritten before it is
read, it takes the bytes one after the other (`blockSsu`), and destination bytes in RAM are copied. -/
def Obligations.BlockMove : Prop :=
  ∀ (s : State) (i : Instr) (n : Nat) (src dst : Word),
    (i = .eepmovB ∧ n = (s.r8 12).toNat ∨ i = .eepmovW ∧ n = (s.r16 4).toNat) →
    src = s.eaInd 5 → dst = s.eaInd 6 →
    Completes i s fun t =>
      t.reg 5 = s.reg 5 + BitVec.ofNat 32 n ∧ t.reg 6 = s.reg 6 + BitVec.ofNat 32 n
      ∧ (i = .eepmovB → t.reg 4 = (s.reg 4).extractLsb' 8 24 ++ 0#8)
      ∧ (i = .eepmovW → t.reg 4 = (s.reg 4).extractLsb' 16 16 ++ 0#16)
      ∧ (∀ m, m ≠ 4 → m ≠ 5 → m ≠ 6 → t.reg m = s.reg m)
      ∧ SameFlags s t ∧ t.pc = s.pc ∧ t.rom = s.rom ∧ t.params = s.params ∧ t.initialized = s.initialized
      ∧ (∀ a, a ≠ 0xF0E4 → (∀ k < n, a ≠ dst + BitVec.ofNat 16 k) → (t.read8 a).1 = (s.read8 a).1)
      ∧ (∀ a, ¬ InRam a → ¬ InSsu a → (t.read8 a).1 = (s.read8 a).1)
      ∧ ((∀ k < n, InRam (dst + BitVec.ofNat 16 k)) →
          ∀ k < n, (t.read8 (dst + BitVec.ofNat 16 k)).1
            = (s.read8 (src + BitVec.ofNat 16 (k % (dst - src).toNat))).1)
      ∧ ((∀ k < n, ¬ InSsu (dst + BitVec.ofNat 16 k)) →
          ((∃ k < n, src + BitVec.ofNat 16 k = 0xF0E9) → t.ssu = { s.ssu with sssr := s.ssu.sssr &&& 0xFD })
          ∧ ((∀ k < n, src + BitVec.ofNat 16 k ≠ 0xF0E9) → t.ssu = s.ssu))
      ∧ ((∀ j k, j < k → k < n → src + BitVec.ofNat 16 k ≠ dst + BitVec.ofNat 16 j) →
          t.ssu = ((List.range n).map fun k => (src + BitVec.ofNat 16 k, dst + BitVec.ofNat 16 k)).foldl (blockSsu s)
            s.ssu
          ∧ ∀ k < n, InRam (dst + BitVec.ofNat 16 k) → src + BitVec.ofNat 16 k ≠ 0xF0E4 →
            (t.read8 (dst + BitVec.ofNat 16 k)).1 = (s.read8 (src + BitVec.ofNat 16 k)).1)

/-! ## The host's access between steps -/

/-- R336: the debug accessors name ER0 to ER7, PC and CCR; a write of PC is reduced modulo 2^24; memory goes through the
bus, side effects and all. -/
def Obligations.DebugAccessors : Prop :=
  ∀ (s : State) (v : Long),
    (∀ n, s.readRegister (.er n) = s.reg n ∧ OnlyLong s (s.writeRegister (.er n) v) n v
      ∧ Quiet s (s.writeRegister (.er n) v) ∧ SameFlags s (s.writeRegister (.er n) v))
    ∧ s.readRegister .pc = s.pc ∧ s.writeRegister .pc v = { s with pc := wrap24 v }
    ∧ s.readRegister .ccr = s.ccr.setWidth 32 ∧ s.writeRegister .ccr v = { s with ccr := v.extractLsb' 0 8 }
    ∧ (∀ a, s.readMemory a = s.read8 a) ∧ ∀ a b, s.writeMemory a b = s.write8 a b
end

