-- ==== Sys2Proof/Laws/State.lean ====
section
/-! SUPPORT. What each field of the state is after each update: one lemma per field per update, true by
computation, so that no later proof unfolds a record update. -/

namespace Sys2Proof.Machine

/-! ## setReg -/

@[simp] theorem State.setReg_er (s : State) (n : Reg3) (v : Long) : (s.setReg n v).er = s.er.set n.toNat v n.isLt := rfl
@[simp] theorem State.setReg_pc (s : State) (n : Reg3) (v : Long) : (s.setReg n v).pc = s.pc := rfl
@[simp] theorem State.setReg_ccr (s : State) (n : Reg3) (v : Long) : (s.setReg n v).ccr = s.ccr := rfl
@[simp] theorem State.setReg_initialized (s : State) (n : Reg3) (v : Long) : (s.setReg n v).initialized = s.initialized := rfl
@[simp] theorem State.setReg_rom (s : State) (n : Reg3) (v : Long) : (s.setReg n v).rom = s.rom := rfl
@[simp] theorem State.setReg_ram (s : State) (n : Reg3) (v : Long) : (s.setReg n v).ram = s.ram := rfl
@[simp] theorem State.setReg_ssu (s : State) (n : Reg3) (v : Long) : (s.setReg n v).ssu = s.ssu := rfl
@[simp] theorem State.setReg_params (s : State) (n : Reg3) (v : Long) : (s.setReg n v).params = s.params := rfl
@[simp] theorem State.setReg_freeIndex (s : State) (n : Reg3) (v : Long) : (s.setReg n v).freeIndex = s.freeIndex := rfl

@[simp] theorem State.setReg_flag (s : State) (n : Reg3) (v : Long) (g : Flag) : (s.setReg n v).flag g = s.flag g := rfl
@[simp] theorem State.setReg_read8 (s : State) (n : Reg3) (v : Long) (q : Word) : ((s.setReg n v).read8 q).1 = (s.read8 q).1 := by
  unfold State.read8; split <;> rfl

/-! ## setR16 -/

@[simp] theorem State.setR16_pc (s : State) (r : Reg4) (v : Word) : (s.setR16 r v).pc = s.pc := rfl
@[simp] theorem State.setR16_ccr (s : State) (r : Reg4) (v : Word) : (s.setR16 r v).ccr = s.ccr := rfl
@[simp] theorem State.setR16_initialized (s : State) (r : Reg4) (v : Word) : (s.setR16 r v).initialized = s.initialized := rfl
@[simp] theorem State.setR16_rom (s : State) (r : Reg4) (v : Word) : (s.setR16 r v).rom = s.rom := rfl
@[simp] theorem State.setR16_ram (s : State) (r : Reg4) (v : Word) : (s.setR16 r v).ram = s.ram := rfl
@[simp] theorem State.setR16_ssu (s : State) (r : Reg4) (v : Word) : (s.setR16 r v).ssu = s.ssu := rfl
@[simp] theorem State.setR16_params (s : State) (r : Reg4) (v : Word) : (s.setR16 r v).params = s.params := rfl
@[simp] theorem State.setR16_freeIndex (s : State) (r : Reg4) (v : Word) : (s.setR16 r v).freeIndex = s.freeIndex := rfl

@[simp] theorem State.setR16_flag (s : State) (r : Reg4) (v : Word) (g : Flag) : (s.setR16 r v).flag g = s.flag g := rfl
@[simp] theorem State.setR16_read8 (s : State) (r : Reg4) (v : Word) (q : Word) : ((s.setR16 r v).read8 q).1 = (s.read8 q).1 := by
  unfold State.read8; split <;> rfl

/-! ## setR8 -/

@[simp] theorem State.setR8_pc (s : State) (r : Reg4) (v : Byte) : (s.setR8 r v).pc = s.pc := rfl
@[simp] theorem State.setR8_ccr (s : State) (r : Reg4) (v : Byte) : (s.setR8 r v).ccr = s.ccr := rfl
@[simp] theorem State.setR8_initialized (s : State) (r : Reg4) (v : Byte) : (s.setR8 r v).initialized = s.initialized := rfl
@[simp] theorem State.setR8_rom (s : State) (r : Reg4) (v : Byte) : (s.setR8 r v).rom = s.rom := rfl
@[simp] theorem State.setR8_ram (s : State) (r : Reg4) (v : Byte) : (s.setR8 r v).ram = s.ram := rfl
@[simp] theorem State.setR8_ssu (s : State) (r : Reg4) (v : Byte) : (s.setR8 r v).ssu = s.ssu := rfl
@[simp] theorem State.setR8_params (s : State) (r : Reg4) (v : Byte) : (s.setR8 r v).params = s.params := rfl
@[simp] theorem State.setR8_freeIndex (s : State) (r : Reg4) (v : Byte) : (s.setR8 r v).freeIndex = s.freeIndex := rfl

@[simp] theorem State.setR8_flag (s : State) (r : Reg4) (v : Byte) (g : Flag) : (s.setR8 r v).flag g = s.flag g := rfl
@[simp] theorem State.setR8_read8 (s : State) (r : Reg4) (v : Byte) (q : Word) : ((s.setR8 r v).read8 q).1 = (s.read8 q).1 := by
  unfold State.read8; split <;> rfl

/-! ## bump -/

@[simp] theorem State.bump_pc (s : State) (n : Reg3) (k : Long) : (s.bump n k).pc = s.pc := rfl
@[simp] theorem State.bump_ccr (s : State) (n : Reg3) (k : Long) : (s.bump n k).ccr = s.ccr := rfl
@[simp] theorem State.bump_initialized (s : State) (n : Reg3) (k : Long) : (s.bump n k).initialized = s.initialized := rfl
@[simp] theorem State.bump_rom (s : State) (n : Reg3) (k : Long) : (s.bump n k).rom = s.rom := rfl
@[simp] theorem State.bump_ram (s : State) (n : Reg3) (k : Long) : (s.bump n k).ram = s.ram := rfl
@[simp] theorem State.bump_ssu (s : State) (n : Reg3) (k : Long) : (s.bump n k).ssu = s.ssu := rfl
@[simp] theorem State.bump_params (s : State) (n : Reg3) (k : Long) : (s.bump n k).params = s.params := rfl
@[simp] theorem State.bump_freeIndex (s : State) (n : Reg3) (k : Long) : (s.bump n k).freeIndex = s.freeIndex := rfl

@[simp] theorem State.bump_flag (s : State) (n : Reg3) (k : Long) (g : Flag) : (s.bump n k).flag g = s.flag g := rfl
@[simp] theorem State.bump_read8 (s : State) (n : Reg3) (k : Long) (q : Word) : ((s.bump n k).read8 q).1 = (s.read8 q).1 := by
  unfold State.read8; split <;> rfl

/-! ## setPc -/

@[simp] theorem State.setPc_er (s : State) (a : Long) : (s.setPc a).er = s.er := rfl
@[simp] theorem State.setPc_pc (s : State) (a : Long) : (s.setPc a).pc = mod24 a := rfl
@[simp] theorem State.setPc_ccr (s : State) (a : Long) : (s.setPc a).ccr = s.ccr := rfl
@[simp] theorem State.setPc_initialized (s : State) (a : Long) : (s.setPc a).initialized = s.initialized := rfl
@[simp] theorem State.setPc_rom (s : State) (a : Long) : (s.setPc a).rom = s.rom := rfl
@[simp] theorem State.setPc_ram (s : State) (a : Long) : (s.setPc a).ram = s.ram := rfl
@[simp] theorem State.setPc_ssu (s : State) (a : Long) : (s.setPc a).ssu = s.ssu := rfl
@[simp] theorem State.setPc_params (s : State) (a : Long) : (s.setPc a).params = s.params := rfl
@[simp] theorem State.setPc_freeIndex (s : State) (a : Long) : (s.setPc a).freeIndex = s.freeIndex := rfl

@[simp] theorem State.setPc_reg (s : State) (a : Long) (m : Reg3) : (s.setPc a).reg m = s.reg m := rfl
@[simp] theorem State.setPc_r16 (s : State) (a : Long) (m : Reg4) : (s.setPc a).r16 m = s.r16 m := rfl
@[simp] theorem State.setPc_r8 (s : State) (a : Long) (m : Reg4) : (s.setPc a).r8 m = s.r8 m := rfl
@[simp] theorem State.setPc_flag (s : State) (a : Long) (g : Flag) : (s.setPc a).flag g = s.flag g := rfl
@[simp] theorem State.setPc_read8 (s : State) (a : Long) (q : Word) : ((s.setPc a).read8 q).1 = (s.read8 q).1 := by
  unfold State.read8; split <;> rfl

/-! ## setCcr -/

@[simp] theorem State.setCcr_er (s : State) (v : Byte) : (s.setCcr v).er = s.er := rfl
@[simp] theorem State.setCcr_pc (s : State) (v : Byte) : (s.setCcr v).pc = s.pc := rfl
@[simp] theorem State.setCcr_ccr (s : State) (v : Byte) : (s.setCcr v).ccr = v := rfl
@[simp] theorem State.setCcr_initialized (s : State) (v : Byte) : (s.setCcr v).initialized = s.initialized := rfl
@[simp] theorem State.setCcr_rom (s : State) (v : Byte) : (s.setCcr v).rom = s.rom := rfl
@[simp] theorem State.setCcr_ram (s : State) (v : Byte) : (s.setCcr v).ram = s.ram := rfl
@[simp] theorem State.setCcr_ssu (s : State) (v : Byte) : (s.setCcr v).ssu = s.ssu := rfl
@[simp] theorem State.setCcr_params (s : State) (v : Byte) : (s.setCcr v).params = s.params := rfl
@[simp] theorem State.setCcr_freeIndex (s : State) (v : Byte) : (s.setCcr v).freeIndex = s.freeIndex := rfl

@[simp] theorem State.setCcr_reg (s : State) (v : Byte) (m : Reg3) : (s.setCcr v).reg m = s.reg m := rfl
@[simp] theorem State.setCcr_r16 (s : State) (v : Byte) (m : Reg4) : (s.setCcr v).r16 m = s.r16 m := rfl
@[simp] theorem State.setCcr_r8 (s : State) (v : Byte) (m : Reg4) : (s.setCcr v).r8 m = s.r8 m := rfl
@[simp] theorem State.setCcr_read8 (s : State) (v : Byte) (q : Word) : ((s.setCcr v).read8 q).1 = (s.read8 q).1 := by
  unfold State.read8; split <;> rfl

/-! ## setFlag -/

@[simp] theorem State.setFlag_er (s : State) (f : Flag) (x : Bool) : (s.setFlag f x).er = s.er := rfl
@[simp] theorem State.setFlag_pc (s : State) (f : Flag) (x : Bool) : (s.setFlag f x).pc = s.pc := rfl
@[simp] theorem State.setFlag_ccr (s : State) (f : Flag) (x : Bool) : (s.setFlag f x).ccr = setBit s.ccr f.bit x := rfl
@[simp] theorem State.setFlag_initialized (s : State) (f : Flag) (x : Bool) : (s.setFlag f x).initialized = s.initialized := rfl
@[simp] theorem State.setFlag_rom (s : State) (f : Flag) (x : Bool) : (s.setFlag f x).rom = s.rom := rfl
@[simp] theorem State.setFlag_ram (s : State) (f : Flag) (x : Bool) : (s.setFlag f x).ram = s.ram := rfl
@[simp] theorem State.setFlag_ssu (s : State) (f : Flag) (x : Bool) : (s.setFlag f x).ssu = s.ssu := rfl
@[simp] theorem State.setFlag_params (s : State) (f : Flag) (x : Bool) : (s.setFlag f x).params = s.params := rfl
@[simp] theorem State.setFlag_freeIndex (s : State) (f : Flag) (x : Bool) : (s.setFlag f x).freeIndex = s.freeIndex := rfl

@[simp] theorem State.setFlag_reg (s : State) (f : Flag) (x : Bool) (m : Reg3) : (s.setFlag f x).reg m = s.reg m := rfl
@[simp] theorem State.setFlag_r16 (s : State) (f : Flag) (x : Bool) (m : Reg4) : (s.setFlag f x).r16 m = s.r16 m := rfl
@[simp] theorem State.setFlag_r8 (s : State) (f : Flag) (x : Bool) (m : Reg4) : (s.setFlag f x).r8 m = s.r8 m := rfl
@[simp] theorem State.setFlag_read8 (s : State) (f : Flag) (x : Bool) (q : Word) : ((s.setFlag f x).read8 q).1 = (s.read8 q).1 := by
  unfold State.read8; split <;> rfl

/-! ## setNZ -/

@[simp] theorem State.setNZ_er (s : State) (n z : Bool) : (s.setNZ n z).er = s.er := rfl
@[simp] theorem State.setNZ_pc (s : State) (n z : Bool) : (s.setNZ n z).pc = s.pc := rfl
@[simp] theorem State.setNZ_initialized (s : State) (n z : Bool) : (s.setNZ n z).initialized = s.initialized := rfl
@[simp] theorem State.setNZ_rom (s : State) (n z : Bool) : (s.setNZ n z).rom = s.rom := rfl
@[simp] theorem State.setNZ_ram (s : State) (n z : Bool) : (s.setNZ n z).ram = s.ram := rfl
@[simp] theorem State.setNZ_ssu (s : State) (n z : Bool) : (s.setNZ n z).ssu = s.ssu := rfl
@[simp] theorem State.setNZ_params (s : State) (n z : Bool) : (s.setNZ n z).params = s.params := rfl
@[simp] theorem State.setNZ_freeIndex (s : State) (n z : Bool) : (s.setNZ n z).freeIndex = s.freeIndex := rfl

@[simp] theorem State.setNZ_reg (s : State) (n z : Bool) (m : Reg3) : (s.setNZ n z).reg m = s.reg m := rfl
@[simp] theorem State.setNZ_r16 (s : State) (n z : Bool) (m : Reg4) : (s.setNZ n z).r16 m = s.r16 m := rfl
@[simp] theorem State.setNZ_r8 (s : State) (n z : Bool) (m : Reg4) : (s.setNZ n z).r8 m = s.r8 m := rfl
@[simp] theorem State.setNZ_read8 (s : State) (n z : Bool) (q : Word) : ((s.setNZ n z).read8 q).1 = (s.read8 q).1 := by
  unfold State.read8; split <;> rfl

/-! ## setNZOf -/

@[simp] theorem State.setNZOf_er (s : State) {w : Nat} (r : BitVec w) : (s.setNZOf r).er = s.er := rfl
@[simp] theorem State.setNZOf_pc (s : State) {w : Nat} (r : BitVec w) : (s.setNZOf r).pc = s.pc := rfl
@[simp] theorem State.setNZOf_initialized (s : State) {w : Nat} (r : BitVec w) : (s.setNZOf r).initialized = s.initialized := rfl
@[simp] theorem State.setNZOf_rom (s : State) {w : Nat} (r : BitVec w) : (s.setNZOf r).rom = s.rom := rfl
@[simp] theorem State.setNZOf_ram (s : State) {w : Nat} (r : BitVec w) : (s.setNZOf r).ram = s.ram := rfl
@[simp] theorem State.setNZOf_ssu (s : State) {w : Nat} (r : BitVec w) : (s.setNZOf r).ssu = s.ssu := rfl
@[simp] theorem State.setNZOf_params (s : State) {w : Nat} (r : BitVec w) : (s.setNZOf r).params = s.params := rfl
@[simp] theorem State.setNZOf_freeIndex (s : State) {w : Nat} (r : BitVec w) : (s.setNZOf r).freeIndex = s.freeIndex := rfl

@[simp] theorem State.setNZOf_reg (s : State) {w : Nat} (r : BitVec w) (m : Reg3) : (s.setNZOf r).reg m = s.reg m := rfl
@[simp] theorem State.setNZOf_r16 (s : State) {w : Nat} (r : BitVec w) (m : Reg4) : (s.setNZOf r).r16 m = s.r16 m := rfl
@[simp] theorem State.setNZOf_r8 (s : State) {w : Nat} (r : BitVec w) (m : Reg4) : (s.setNZOf r).r8 m = s.r8 m := rfl
@[simp] theorem State.setNZOf_read8 (s : State) {w : Nat} (r : BitVec w) (q : Word) : ((s.setNZOf r).read8 q).1 = (s.read8 q).1 := by
  unfold State.read8; split <;> rfl

/-! ## logicN -/

@[simp] theorem State.logicN_er (s : State) {w : Nat} (r : BitVec w) : (s.logicN r).er = s.er := rfl
@[simp] theorem State.logicN_pc (s : State) {w : Nat} (r : BitVec w) : (s.logicN r).pc = s.pc := rfl
@[simp] theorem State.logicN_initialized (s : State) {w : Nat} (r : BitVec w) : (s.logicN r).initialized = s.initialized := rfl
@[simp] theorem State.logicN_rom (s : State) {w : Nat} (r : BitVec w) : (s.logicN r).rom = s.rom := rfl
@[simp] theorem State.logicN_ram (s : State) {w : Nat} (r : BitVec w) : (s.logicN r).ram = s.ram := rfl
@[simp] theorem State.logicN_ssu (s : State) {w : Nat} (r : BitVec w) : (s.logicN r).ssu = s.ssu := rfl
@[simp] theorem State.logicN_params (s : State) {w : Nat} (r : BitVec w) : (s.logicN r).params = s.params := rfl
@[simp] theorem State.logicN_freeIndex (s : State) {w : Nat} (r : BitVec w) : (s.logicN r).freeIndex = s.freeIndex := rfl

@[simp] theorem State.logicN_reg (s : State) {w : Nat} (r : BitVec w) (m : Reg3) : (s.logicN r).reg m = s.reg m := rfl
@[simp] theorem State.logicN_r16 (s : State) {w : Nat} (r : BitVec w) (m : Reg4) : (s.logicN r).r16 m = s.r16 m := rfl
@[simp] theorem State.logicN_r8 (s : State) {w : Nat} (r : BitVec w) (m : Reg4) : (s.logicN r).r8 m = s.r8 m := rfl
@[simp] theorem State.logicN_read8 (s : State) {w : Nat} (r : BitVec w) (q : Word) : ((s.logicN r).read8 q).1 = (s.read8 q).1 := by
  unfold State.read8; split <;> rfl

/-! ## incFlags -/

@[simp] theorem State.incFlags_er (s : State) {w : Nat} (r : BitVec w) (v : Bool) : (s.incFlags r v).er = s.er := rfl
@[simp] theorem State.incFlags_pc (s : State) {w : Nat} (r : BitVec w) (v : Bool) : (s.incFlags r v).pc = s.pc := rfl
@[simp] theorem State.incFlags_initialized (s : State) {w : Nat} (r : BitVec w) (v : Bool) : (s.incFlags r v).initialized = s.initialized := rfl
@[simp] theorem State.incFlags_rom (s : State) {w : Nat} (r : BitVec w) (v : Bool) : (s.incFlags r v).rom = s.rom := rfl
@[simp] theorem State.incFlags_ram (s : State) {w : Nat} (r : BitVec w) (v : Bool) : (s.incFlags r v).ram = s.ram := rfl
@[simp] theorem State.incFlags_ssu (s : State) {w : Nat} (r : BitVec w) (v : Bool) : (s.incFlags r v).ssu = s.ssu := rfl
@[simp] theorem State.incFlags_params (s : State) {w : Nat} (r : BitVec w) (v : Bool) : (s.incFlags r v).params = s.params := rfl
@[simp] theorem State.incFlags_freeIndex (s : State) {w : Nat} (r : BitVec w) (v : Bool) : (s.incFlags r v).freeIndex = s.freeIndex := rfl

@[simp] theorem State.incFlags_reg (s : State) {w : Nat} (r : BitVec w) (v : Bool) (m : Reg3) : (s.incFlags r v).reg m = s.reg m := rfl
@[simp] theorem State.incFlags_r16 (s : State) {w : Nat} (r : BitVec w) (v : Bool) (m : Reg4) : (s.incFlags r v).r16 m = s.r16 m := rfl
@[simp] theorem State.incFlags_r8 (s : State) {w : Nat} (r : BitVec w) (v : Bool) (m : Reg4) : (s.incFlags r v).r8 m = s.r8 m := rfl
@[simp] theorem State.incFlags_read8 (s : State) {w : Nat} (r : BitVec w) (v : Bool) (q : Word) : ((s.incFlags r v).read8 q).1 = (s.read8 q).1 := by
  unfold State.read8; split <;> rfl

/-! ## shiftFlags -/

@[simp] theorem State.shiftFlags_er (s : State) {w : Nat} (x : ShiftResult w) : (s.shiftFlags x).er = s.er := rfl
@[simp] theorem State.shiftFlags_pc (s : State) {w : Nat} (x : ShiftResult w) : (s.shiftFlags x).pc = s.pc := rfl
@[simp] theorem State.shiftFlags_initialized (s : State) {w : Nat} (x : ShiftResult w) : (s.shiftFlags x).initialized = s.initialized := rfl
@[simp] theorem State.shiftFlags_rom (s : State) {w : Nat} (x : ShiftResult w) : (s.shiftFlags x).rom = s.rom := rfl
@[simp] theorem State.shiftFlags_ram (s : State) {w : Nat} (x : ShiftResult w) : (s.shiftFlags x).ram = s.ram := rfl
@[simp] theorem State.shiftFlags_ssu (s : State) {w : Nat} (x : ShiftResult w) : (s.shiftFlags x).ssu = s.ssu := rfl
@[simp] theorem State.shiftFlags_params (s : State) {w : Nat} (x : ShiftResult w) : (s.shiftFlags x).params = s.params := rfl
@[simp] theorem State.shiftFlags_freeIndex (s : State) {w : Nat} (x : ShiftResult w) : (s.shiftFlags x).freeIndex = s.freeIndex := rfl

@[simp] theorem State.shiftFlags_reg (s : State) {w : Nat} (x : ShiftResult w) (m : Reg3) : (s.shiftFlags x).reg m = s.reg m := rfl
@[simp] theorem State.shiftFlags_r16 (s : State) {w : Nat} (x : ShiftResult w) (m : Reg4) : (s.shiftFlags x).r16 m = s.r16 m := rfl
@[simp] theorem State.shiftFlags_r8 (s : State) {w : Nat} (x : ShiftResult w) (m : Reg4) : (s.shiftFlags x).r8 m = s.r8 m := rfl
@[simp] theorem State.shiftFlags_read8 (s : State) {w : Nat} (x : ShiftResult w) (q : Word) : ((s.shiftFlags x).read8 q).1 = (s.read8 q).1 := by
  unfold State.read8; split <;> rfl

/-! ## extendFlags -/

@[simp] theorem State.extendFlags_er (s : State) {w : Nat} (r : BitVec w) : (s.extendFlags r).er = s.er := rfl
@[simp] theorem State.extendFlags_pc (s : State) {w : Nat} (r : BitVec w) : (s.extendFlags r).pc = s.pc := rfl
@[simp] theorem State.extendFlags_initialized (s : State) {w : Nat} (r : BitVec w) : (s.extendFlags r).initialized = s.initialized := rfl
@[simp] theorem State.extendFlags_rom (s : State) {w : Nat} (r : BitVec w) : (s.extendFlags r).rom = s.rom := rfl
@[simp] theorem State.extendFlags_ram (s : State) {w : Nat} (r : BitVec w) : (s.extendFlags r).ram = s.ram := rfl
@[simp] theorem State.extendFlags_ssu (s : State) {w : Nat} (r : BitVec w) : (s.extendFlags r).ssu = s.ssu := rfl
@[simp] theorem State.extendFlags_params (s : State) {w : Nat} (r : BitVec w) : (s.extendFlags r).params = s.params := rfl
@[simp] theorem State.extendFlags_freeIndex (s : State) {w : Nat} (r : BitVec w) : (s.extendFlags r).freeIndex = s.freeIndex := rfl

@[simp] theorem State.extendFlags_reg (s : State) {w : Nat} (r : BitVec w) (m : Reg3) : (s.extendFlags r).reg m = s.reg m := rfl
@[simp] theorem State.extendFlags_r16 (s : State) {w : Nat} (r : BitVec w) (m : Reg4) : (s.extendFlags r).r16 m = s.r16 m := rfl
@[simp] theorem State.extendFlags_r8 (s : State) {w : Nat} (r : BitVec w) (m : Reg4) : (s.extendFlags r).r8 m = s.r8 m := rfl
@[simp] theorem State.extendFlags_read8 (s : State) {w : Nat} (r : BitVec w) (q : Word) : ((s.extendFlags r).read8 q).1 = (s.read8 q).1 := by
  unfold State.read8; split <;> rfl

/-! ## setArith -/

@[simp] theorem State.setArith_er (s : State) (f : ArithFlags) : (s.setArith f).er = s.er := rfl
@[simp] theorem State.setArith_pc (s : State) (f : ArithFlags) : (s.setArith f).pc = s.pc := rfl
@[simp] theorem State.setArith_initialized (s : State) (f : ArithFlags) : (s.setArith f).initialized = s.initialized := rfl
@[simp] theorem State.setArith_rom (s : State) (f : ArithFlags) : (s.setArith f).rom = s.rom := rfl
@[simp] theorem State.setArith_ram (s : State) (f : ArithFlags) : (s.setArith f).ram = s.ram := rfl
@[simp] theorem State.setArith_ssu (s : State) (f : ArithFlags) : (s.setArith f).ssu = s.ssu := rfl
@[simp] theorem State.setArith_params (s : State) (f : ArithFlags) : (s.setArith f).params = s.params := rfl
@[simp] theorem State.setArith_freeIndex (s : State) (f : ArithFlags) : (s.setArith f).freeIndex = s.freeIndex := rfl

@[simp] theorem State.setArith_reg (s : State) (f : ArithFlags) (m : Reg3) : (s.setArith f).reg m = s.reg m := rfl
@[simp] theorem State.setArith_r16 (s : State) (f : ArithFlags) (m : Reg4) : (s.setArith f).r16 m = s.r16 m := rfl
@[simp] theorem State.setArith_r8 (s : State) (f : ArithFlags) (m : Reg4) : (s.setArith f).r8 m = s.r8 m := rfl
@[simp] theorem State.setArith_read8 (s : State) (f : ArithFlags) (q : Word) : ((s.setArith f).read8 q).1 = (s.read8 q).1 := by
  unfold State.read8; split <;> rfl

/-! ## setArithSticky -/

@[simp] theorem State.setArithSticky_er (s : State) (f : ArithFlags) : (s.setArithSticky f).er = s.er := rfl
@[simp] theorem State.setArithSticky_pc (s : State) (f : ArithFlags) : (s.setArithSticky f).pc = s.pc := rfl
@[simp] theorem State.setArithSticky_initialized (s : State) (f : ArithFlags) : (s.setArithSticky f).initialized = s.initialized := rfl
@[simp] theorem State.setArithSticky_rom (s : State) (f : ArithFlags) : (s.setArithSticky f).rom = s.rom := rfl
@[simp] theorem State.setArithSticky_ram (s : State) (f : ArithFlags) : (s.setArithSticky f).ram = s.ram := rfl
@[simp] theorem State.setArithSticky_ssu (s : State) (f : ArithFlags) : (s.setArithSticky f).ssu = s.ssu := rfl
@[simp] theorem State.setArithSticky_params (s : State) (f : ArithFlags) : (s.setArithSticky f).params = s.params := rfl
@[simp] theorem State.setArithSticky_freeIndex (s : State) (f : ArithFlags) : (s.setArithSticky f).freeIndex = s.freeIndex := rfl

@[simp] theorem State.setArithSticky_reg (s : State) (f : ArithFlags) (m : Reg3) : (s.setArithSticky f).reg m = s.reg m := rfl
@[simp] theorem State.setArithSticky_r16 (s : State) (f : ArithFlags) (m : Reg4) : (s.setArithSticky f).r16 m = s.r16 m := rfl
@[simp] theorem State.setArithSticky_r8 (s : State) (f : ArithFlags) (m : Reg4) : (s.setArithSticky f).r8 m = s.r8 m := rfl
@[simp] theorem State.setArithSticky_read8 (s : State) (f : ArithFlags) (q : Word) : ((s.setArithSticky f).read8 q).1 = (s.read8 q).1 := by
  unfold State.read8; split <;> rfl

/-! ## busCycle -/

@[simp] theorem State.busCycle_er (s : State) : (s.busCycle).er = s.er := rfl
@[simp] theorem State.busCycle_pc (s : State) : (s.busCycle).pc = s.pc := rfl
@[simp] theorem State.busCycle_ccr (s : State) : (s.busCycle).ccr = s.ccr := rfl
@[simp] theorem State.busCycle_initialized (s : State) : (s.busCycle).initialized = s.initialized := rfl
@[simp] theorem State.busCycle_rom (s : State) : (s.busCycle).rom = s.rom := rfl
@[simp] theorem State.busCycle_ram (s : State) : (s.busCycle).ram = s.ram := rfl
@[simp] theorem State.busCycle_ssu (s : State) : (s.busCycle).ssu = s.ssu.cycle s.params.ssuRxByte := rfl
@[simp] theorem State.busCycle_params (s : State) : (s.busCycle).params = s.params := rfl
@[simp] theorem State.busCycle_freeIndex (s : State) : (s.busCycle).freeIndex = s.freeIndex := rfl

@[simp] theorem State.busCycle_reg (s : State) (m : Reg3) : (s.busCycle).reg m = s.reg m := rfl
@[simp] theorem State.busCycle_r16 (s : State) (m : Reg4) : (s.busCycle).r16 m = s.r16 m := rfl
@[simp] theorem State.busCycle_r8 (s : State) (m : Reg4) : (s.busCycle).r8 m = s.r8 m := rfl
@[simp] theorem State.busCycle_flag (s : State) (g : Flag) : (s.busCycle).flag g = s.flag g := rfl

/-! ## takeFree -/

@[simp] theorem State.takeFree_er (s : State) : (s.takeFree.2).er = s.er := rfl
@[simp] theorem State.takeFree_pc (s : State) : (s.takeFree.2).pc = s.pc := rfl
@[simp] theorem State.takeFree_ccr (s : State) : (s.takeFree.2).ccr = s.ccr := rfl
@[simp] theorem State.takeFree_initialized (s : State) : (s.takeFree.2).initialized = s.initialized := rfl
@[simp] theorem State.takeFree_rom (s : State) : (s.takeFree.2).rom = s.rom := rfl
@[simp] theorem State.takeFree_ram (s : State) : (s.takeFree.2).ram = s.ram := rfl
@[simp] theorem State.takeFree_ssu (s : State) : (s.takeFree.2).ssu = s.ssu := rfl
@[simp] theorem State.takeFree_params (s : State) : (s.takeFree.2).params = s.params := rfl
@[simp] theorem State.takeFree_freeIndex (s : State) : (s.takeFree.2).freeIndex = s.freeIndex + 1 := rfl

@[simp] theorem State.takeFree_reg (s : State) (m : Reg3) : (s.takeFree.2).reg m = s.reg m := rfl
@[simp] theorem State.takeFree_r16 (s : State) (m : Reg4) : (s.takeFree.2).r16 m = s.r16 m := rfl
@[simp] theorem State.takeFree_r8 (s : State) (m : Reg4) : (s.takeFree.2).r8 m = s.r8 m := rfl
@[simp] theorem State.takeFree_flag (s : State) (g : Flag) : (s.takeFree.2).flag g = s.flag g := rfl
@[simp] theorem State.takeFree_read8 (s : State) (q : Word) : ((s.takeFree.2).read8 q).1 = (s.read8 q).1 := by
  unfold State.read8; split <;> rfl

end Sys2Proof.Machine
end

