-- ==== Sys2Proof/Laws/Registers.lean ====
section
/-! SUPPORT. The general registers: what a write of one view does to every view (10_state.md rule R21). -/

namespace Sys2Proof.Machine

theorem State.reg_setReg (s : State) (n m : Reg3) (v : Long) :
    (s.setReg n v).reg m = if m = n then v else s.reg m := by
  unfold State.reg State.setReg
  by_cases h : m = n
  · subst h; simp
  · have : n.toNat ≠ m.toNat := fun e => h (BitVec.eq_of_toNat_eq e.symm)
    simp [h, this]

@[simp] theorem State.reg_setReg_same (s : State) (n : Reg3) (v : Long) : (s.setReg n v).reg n = v := by
  simp [State.reg_setReg]

theorem State.reg_setReg_other (s : State) {n m : Reg3} (v : Long) (h : m ≠ n) :
    (s.setReg n v).reg m = s.reg m := by simp [State.reg_setReg, h]

/-- Two states with the same long registers have the same register file. -/
theorem State.er_ext {s t : State} (h : ∀ n, t.reg n = s.reg n) : t.er = s.er := by
  apply Vector.ext
  intro i hi
  have := h (BitVec.ofNat 3 i)
  simpa [State.reg, Nat.mod_eq_of_lt hi] using this

/-- A 4-bit field is its top bit above the number of its register. -/
theorem Reg4.eq_iff (r q : Reg4) : r = q ↔ r.msb = q.msb ∧ viewReg r = viewReg q := by
  revert r q; unfold viewReg; decide

theorem State.r16_setReg (s : State) (n : Reg3) (v : Long) (r : Reg4) :
    (s.setReg n v).r16 r =
      if viewReg r = n then (if r.msb then v.extractLsb' 16 16 else v.extractLsb' 0 16) else s.r16 r := by
  unfold State.r16; rw [State.reg_setReg]; by_cases h : viewReg r = n <;> simp [h]

theorem State.r8_setReg (s : State) (n : Reg3) (v : Long) (r : Reg4) :
    (s.setReg n v).r8 r =
      if viewReg r = n then (if r.msb then v.extractLsb' 0 8 else v.extractLsb' 8 8) else s.r8 r := by
  unfold State.r8; rw [State.reg_setReg]; by_cases h : viewReg r = n <;> simp [h]

/-- The slices of a long rebuilt around a new high word, low word, byte 0 or byte 1. -/
theorem slices_hiWord (x : Long) (v : Word) :
    (v ++ x.extractLsb' 0 16).extractLsb' 16 16 = v ∧ (v ++ x.extractLsb' 0 16).extractLsb' 0 16 = x.extractLsb' 0 16 := by
  constructor <;> ext i hi <;> simp [BitVec.getElem_extractLsb'] <;> grind

theorem slices_loWord (x : Long) (v : Word) :
    (x.extractLsb' 16 16 ++ v).extractLsb' 16 16 = x.extractLsb' 16 16
      ∧ (x.extractLsb' 16 16 ++ v).extractLsb' 0 16 = v := by
  constructor <;> ext i hi <;> simp [BitVec.getElem_extractLsb'] <;> grind

theorem slices_byte0 (x : Long) (v : Byte) :
    (x.extractLsb' 8 24 ++ v).extractLsb' 0 8 = v
      ∧ (x.extractLsb' 8 24 ++ v).extractLsb' 8 8 = x.extractLsb' 8 8
      ∧ (x.extractLsb' 8 24 ++ v).extractLsb' 16 16 = x.extractLsb' 16 16 := by
  refine ⟨?_, ?_, ?_⟩ <;> ext i hi <;> simp [BitVec.getElem_extractLsb'] <;> grind

theorem slices_byte1 (x : Long) (v : Byte) :
    (x.extractLsb' 16 16 ++ v ++ x.extractLsb' 0 8).extractLsb' 0 8 = x.extractLsb' 0 8
      ∧ (x.extractLsb' 16 16 ++ v ++ x.extractLsb' 0 8).extractLsb' 8 8 = v
      ∧ (x.extractLsb' 16 16 ++ v ++ x.extractLsb' 0 8).extractLsb' 16 16 = x.extractLsb' 16 16 := by
  refine ⟨?_, ?_, ?_⟩ <;> ext i hi <;> simp [BitVec.getElem_extractLsb'] <;> grind

/-- The word views after a word write. -/
theorem State.r16_setR16 (s : State) (r q : Reg4) (v : Word) :
    (s.setR16 r v).r16 q = if q = r then v else s.r16 q := by
  unfold State.setR16
  simp only [State.r16_setReg, Reg4.eq_iff]
  by_cases h : viewReg q = viewReg r
  · unfold State.r16
    rw [h]
    cases q.msb <;> cases r.msb <;> simp [slices_hiWord, slices_loWord]
  · simp [h]

/-- The byte views after a byte write. -/
theorem State.r8_setR8 (s : State) (r q : Reg4) (v : Byte) :
    (s.setR8 r v).r8 q = if q = r then v else s.r8 q := by
  unfold State.setR8
  simp only [State.r8_setReg, Reg4.eq_iff]
  by_cases h : viewReg q = viewReg r
  · unfold State.r8
    rw [h]
    cases q.msb <;> cases r.msb <;> simp [slices_byte0, slices_byte1]
  · simp [h]

/-- The upper halves after a byte write. -/
theorem State.upper_setR8 (s : State) (r : Reg4) (n : Reg3) (v : Byte) :
    ((s.setR8 r v).reg n).extractLsb' 16 16 = (s.reg n).extractLsb' 16 16 := by
  unfold State.setR8
  rw [State.reg_setReg]
  by_cases h : n = viewReg r
  · subst h
    cases r.msb <;> simp [slices_byte0, slices_byte1]
  · simp [h]

/-- A word write leaves every other register. -/
theorem State.reg_setR16_other (s : State) {r : Reg4} {n : Reg3} (v : Word) (h : n ≠ viewReg r) :
    (s.setR16 r v).reg n = s.reg n := s.reg_setReg_other _ h

/-- A byte write leaves every other register. -/
theorem State.reg_setR8_other (s : State) {r : Reg4} {n : Reg3} (v : Byte) (h : n ≠ viewReg r) :
    (s.setR8 r v).reg n = s.reg n := s.reg_setReg_other _ h

theorem State.onlyByte_setR8 (s : State) (r : Reg4) (v : Byte) : OnlyByte s (s.setR8 r v) r v :=
  ⟨by simp [State.r8_setR8], fun q hq => by simp [State.r8_setR8, hq], fun n => s.upper_setR8 r n v⟩

theorem State.onlyWord_setR16 (s : State) (r : Reg4) (v : Word) : OnlyWord s (s.setR16 r v) r v :=
  ⟨by simp [State.r16_setR16], fun q hq => by simp [State.r16_setR16, hq]⟩

theorem State.onlyLong_setReg (s : State) (n : Reg3) (v : Long) : OnlyLong s (s.setReg n v) n v :=
  ⟨by simp, fun _ h => s.reg_setReg_other v h⟩

end Sys2Proof.Machine
end

