-- ==== Sys2Proof/Laws/Memory.lean ====
section
/-! SUPPORT. Memory and the bus: a read after a write, the canonical form that every operation keeps, the
address map, and what a bus read or write changes (20_memory.md rules R61 to R77). -/

namespace Sys2Proof.Machine

/-! ## Read after write -/

theorem Memory.erase_cons (b a : Nat) (v : Byte) (m : Memory) :
    Memory.erase ((b, v) :: m) a = if b = a then m.erase a else (b, v) :: m.erase a := by
  unfold Memory.erase
  rw [List.filter_cons]
  by_cases h : b = a <;> simp [h]

theorem Memory.read_erase_same (m : Memory) (a : Nat) : (m.erase a).read a = Memory.blank := by
  induction m with
  | nil => rfl
  | cons c m ih =>
    rw [Memory.erase_cons]
    split
    · exact ih
    · rename_i h
      simp [Memory.read, Ne.symm h, ih]

theorem Memory.read_erase_other (m : Memory) {a b : Nat} (h : b ≠ a) : (m.erase a).read b = m.read b := by
  induction m with
  | nil => rfl
  | cons c m ih =>
    rw [Memory.erase_cons]
    split
    · rename_i hd
      simp [Memory.read, hd, h, ih]
    · simp [Memory.read, ih]

theorem Memory.read_insertCell (m : Memory) (a b : Nat) (v : Byte) (h : ∀ c ∈ m, c.1 ≠ a) :
    (Memory.insertCell a v m).read b = if b = a then v else m.read b := by
  induction m with
  | nil => simp [Memory.insertCell, Memory.read]
  | cons c m ih =>
    obtain ⟨d, w⟩ := c
    have hd : d ≠ a := h (d, w) (by simp)
    have ih := ih fun c hc => h c (by simp [hc])
    unfold Memory.insertCell
    by_cases hlt : a < d
    · simp [hlt, Memory.read]
    · simp only [hlt, if_false, Memory.read, ih]
      by_cases hb : b = d
      · subst hb; simp [hd]
      · simp [hb]

theorem Memory.not_mem_erase (m : Memory) (a : Nat) : ∀ c ∈ m.erase a, c.1 ≠ a := by
  intro c hc
  simpa using (List.mem_filter.1 hc).2

/-- A read after a write: the byte written at its address, and the old byte elsewhere. -/
theorem Memory.read_write (m : Memory) (a b : Nat) (v : Byte) :
    (m.write a v).read b = if b = a then v else m.read b := by
  unfold Memory.write
  by_cases hv : v = Memory.blank
  · by_cases hb : b = a
    · subst hb; simp [hv, Memory.read_erase_same]
    · simp [hv, hb, Memory.read_erase_other]
  · rw [if_neg hv, Memory.read_insertCell _ _ _ _ (m.not_mem_erase a)]
    by_cases hb : b = a
    · simp [hb]
    · simp [hb, Memory.read_erase_other]

/-! ## The canonical form -/

theorem Memory.rising_iff (m : Memory) : m.rising = true ↔ m.Pairwise (fun c d => c.1 < d.1) := by
  induction m with
  | nil => simp [Memory.rising]
  | cons c m ih =>
    obtain ⟨a, v⟩ := c
    cases m with
    | nil => simp [Memory.rising]
    | cons d m =>
      obtain ⟨b, w⟩ := d
      rw [Memory.rising, Bool.and_eq_true, ih, List.pairwise_cons (a := (a, v)), decide_eq_true_iff]
      refine ⟨fun ⟨hab, hp⟩ => ⟨fun c hc => ?_, hp⟩, fun ⟨h, hp⟩ => ⟨h (b, w) (by simp), hp⟩⟩
      rcases List.mem_cons.1 hc with rfl | hc
      · exact hab
      · exact Nat.lt_trans hab ((List.pairwise_cons.1 hp).1 c hc)

/-- The canonical form, as a proposition. -/
theorem Memory.wf_iff (lo hi : Nat) (m : Memory) :
    m.wf lo hi = true ↔ m.Pairwise (fun c d => c.1 < d.1) ∧
      ∀ c ∈ m, lo ≤ c.1 ∧ c.1 ≤ hi ∧ c.2 ≠ Memory.blank := by
  unfold Memory.wf
  rw [Bool.and_eq_true, Memory.rising_iff, List.all_eq_true]
  simp [and_assoc]

theorem Memory.mem_insertCell (m : Memory) (a : Nat) (v : Byte) (c : Host.Cell)
    (hc : c ∈ Memory.insertCell a v m) : c = (a, v) ∨ c ∈ m := by
  induction m with
  | nil => simpa [Memory.insertCell] using hc
  | cons d m ih =>
    obtain ⟨b, w⟩ := d
    unfold Memory.insertCell at hc
    split at hc
    · simpa using hc
    · rcases List.mem_cons.1 hc with h | h
      · exact .inr (by simp [h])
      · rcases ih h with h | h
        · exact .inl h
        · exact .inr (by simp [h])

theorem Memory.pairwise_insertCell (m : Memory) (a : Nat) (v : Byte)
    (hp : m.Pairwise (fun c d => c.1 < d.1)) (ha : ∀ c ∈ m, c.1 ≠ a) :
    (Memory.insertCell a v m).Pairwise (fun c d => c.1 < d.1) := by
  induction m with
  | nil => simp [Memory.insertCell]
  | cons d m ih =>
    obtain ⟨b, w⟩ := d
    have hb : b ≠ a := ha (b, w) (by simp)
    obtain ⟨h1, h2⟩ := List.pairwise_cons.1 hp
    unfold Memory.insertCell
    split
    · rename_i hlt
      refine List.pairwise_cons.2 ⟨?_, hp⟩
      intro c hc
      rcases List.mem_cons.1 hc with rfl | hc
      · exact hlt
      · exact Nat.lt_trans hlt (h1 c hc)
    · refine List.pairwise_cons.2 ⟨?_, ih h2 fun c hc => ha c (by simp [hc])⟩
      intro c hc
      rcases Memory.mem_insertCell m a v c hc with rfl | hc
      · simp only at *; omega
      · exact h1 c hc

/-- A write inside the range keeps the canonical form. -/
theorem Memory.wf_write {lo hi : Nat} {m : Memory} (h : m.wf lo hi = true) {a : Nat} (hlo : lo ≤ a)
    (hhi : a ≤ hi) (v : Byte) : (m.write a v).wf lo hi = true := by
  rw [Memory.wf_iff] at *
  obtain ⟨hp, hm⟩ := h
  have hpe : (m.erase a).Pairwise (fun c d => c.1 < d.1) := hp.filter _
  have hme : ∀ c ∈ m.erase a, lo ≤ c.1 ∧ c.1 ≤ hi ∧ c.2 ≠ Memory.blank :=
    fun c hc => hm c (List.mem_filter.1 hc).1
  unfold Memory.write
  split
  · exact ⟨hpe, hme⟩
  · rename_i hv
    refine ⟨Memory.pairwise_insertCell _ _ _ hpe (m.not_mem_erase a), ?_⟩
    intro c hc
    rcases Memory.mem_insertCell _ _ _ _ hc with rfl | hc
    · exact ⟨hlo, hhi, hv⟩
    · exact hme c hc

/-- The cells of a list of bytes from address `a` on are at `a` or above, below its end, and not blank. -/
theorem Memory.mem_ofBytes {c : Host.Cell} {bytes : List Byte} {a : Nat} (hc : c ∈ Memory.ofBytes a bytes) :
    a ≤ c.1 ∧ c.1 < a + bytes.length ∧ c.2 ≠ Memory.blank := by
  induction bytes generalizing a with
  | nil => cases hc
  | cons v bytes ih =>
    unfold Memory.ofBytes at hc
    split at hc
    · have := ih hc
      exact ⟨by omega, by simp only [List.length_cons]; omega, this.2.2⟩
    · rename_i hv
      rcases List.mem_cons.1 hc with rfl | hc
      · exact ⟨Nat.le_refl _, by simp, hv⟩
      · have := ih hc
        exact ⟨by omega, by simp only [List.length_cons]; omega, this.2.2⟩

/-- A list of bytes as a memory is in canonical form, from its first address to its last. -/
theorem Memory.wf_ofBytes (a : Nat) (bytes : List Byte) {hi : Nat} (h : a + bytes.length ≤ hi + 1) :
    (Memory.ofBytes a bytes).wf a hi = true := by
  rw [Memory.wf_iff]
  refine ⟨?_, fun c hc => ?_⟩
  · clear h
    induction bytes generalizing a with
    | nil => exact List.Pairwise.nil
    | cons v bytes ih =>
      unfold Memory.ofBytes
      split
      · exact ih (a + 1)
      · exact List.pairwise_cons.2 ⟨fun c hc => (Memory.mem_ofBytes hc).1, ih (a + 1)⟩
  · have := Memory.mem_ofBytes hc
    exact ⟨this.1, by omega, this.2.2⟩

/-- An address that no cell has reads as blank. -/
theorem Memory.read_of_not_mem {m : Memory} {a : Nat} (h : ∀ c ∈ m, c.1 ≠ a) : m.read a = Memory.blank := by
  induction m with
  | nil => rfl
  | cons c m ih =>
    obtain ⟨b, v⟩ := c
    rw [Memory.read, if_neg (fun e => h (b, v) (by simp) e.symm), ih fun c hc => h c (by simp [hc])]

/-- Each byte of a list of bytes reads back. -/
theorem Memory.read_ofBytes (a : Nat) (bytes : List Byte) {k : Nat} (h : k < bytes.length) :
    (Memory.ofBytes a bytes).read (a + k) = bytes[k] := by
  induction bytes generalizing a k with
  | nil => cases h
  | cons v bytes ih =>
    have hne : ∀ c ∈ Memory.ofBytes (a + 1) bytes, c.1 ≠ a := fun c hc => by
      have := (Memory.mem_ofBytes hc).1; omega
    unfold Memory.ofBytes
    cases k with
    | zero =>
      split
      · rename_i hv; exact (Memory.read_of_not_mem hne).trans hv.symm
      · simp [Memory.read]
    | succ k =>
      have hk : k < bytes.length := by simpa using h
      have e : a + (k + 1) = a + 1 + k := by omega
      split
      · rw [e, ih (a + 1) hk]; rfl
      · rw [Memory.read, if_neg (by omega), e, ih (a + 1) hk]; rfl

/-- The memories at reset are in canonical form. -/
theorem Memory.wf_reset :
    State.reset.rom.wf 0x0000 0xBFFF = true ∧ State.reset.ram.wf 0xF780 0xFF7F = true := by decide

/-! ## The address map -/

/-- Every address decodes to exactly one target, by its range (R61, R62). -/
theorem decodeAddr_cases (a : Word) :
    (InRom a ∧ decodeAddr a = .rom a.toNat) ∨ (InRam a ∧ decodeAddr a = .ram (a.toNat - ramBase))
      ∨ (InFlash a ∧ ∃ k, decodeAddr a = .flash k) ∨ (∃ k : SsuReg, a = k.addr ∧ decodeAddr a = .ssu k)
      ∨ (decodeAddr a = .openBus ∧ ¬ InRom a ∧ ¬ InRam a ∧ ¬ InFlash a ∧ ¬ InSsu a) := by
  by_cases h0 : InRom a
  · exact .inl ⟨h0, if_pos h0⟩
  refine .inr ?_
  by_cases hf : InFlash a
  · refine .inr (.inl ⟨hf, ?_⟩)
    rcases hf with rfl | rfl | rfl | rfl | rfl
    exacts [⟨.flmcr1, rfl⟩, ⟨.flmcr2, rfl⟩, ⟨.flpwcr, rfl⟩, ⟨.ebr1, rfl⟩, ⟨.fenr, rfl⟩]
  by_cases hs : InSsu a
  · refine .inr (.inr (.inl ?_))
    rcases hs with rfl | rfl | rfl | rfl | rfl | rfl | rfl
    exacts [⟨.sscrh, rfl, rfl⟩, ⟨.sscrl, rfl, rfl⟩, ⟨.ssmr, rfl, rfl⟩, ⟨.sser, rfl, rfl⟩, ⟨.sssr, rfl, rfl⟩,
      ⟨.ssrdr, rfl, rfl⟩, ⟨.sstdr, rfl, rfl⟩]
  have e : decodeAddr a =
      if ramBase ≤ a.toNat ∧ a.toNat ≤ 0xFF7F then .ram (a.toNat - ramBase) else .openBus := by
    have ne : ∀ b : Word, a ≠ b → ¬ a.toNat = b.toNat := fun b h e => h (BitVec.eq_of_toNat_eq e)
    simp only [InFlash, InSsu, not_or] at hf hs
    obtain ⟨f1, f2, f3, f4, f5⟩ := hf
    obtain ⟨s1, s2, s3, s4, s5, s6, s7⟩ := hs
    exact (if_neg h0).trans <| (if_neg (ne _ f1)).trans <| (if_neg (ne _ f2)).trans <| (if_neg (ne _ f3)).trans <|
      (if_neg (ne _ f4)).trans <| (if_neg (ne _ f5)).trans <| (if_neg (ne _ s1)).trans <|
      (if_neg (ne _ s2)).trans <| (if_neg (ne _ s3)).trans <| (if_neg (ne _ s4)).trans <|
      (if_neg (ne _ s5)).trans <| (if_neg (ne _ s6)).trans <| if_neg (ne _ s7)
  by_cases hr : InRam a
  · exact .inl ⟨hr, e.trans (if_pos hr)⟩
  · exact .inr (.inr (.inr ⟨e.trans (if_neg hr), h0, hr, hf, hs⟩))

theorem decodeAddr_rom {a : Word} {i : Nat} (h : decodeAddr a = .rom i) : i = a.toNat ∧ InRom a := by
  rcases decodeAddr_cases a with ⟨h0, e⟩ | ⟨_, e⟩ | ⟨_, k, e⟩ | ⟨k, _, e⟩ | ⟨e, _⟩ <;> rw [e] at h
  · exact ⟨(Target.rom.inj h).symm, h0⟩
  all_goals exact Target.noConfusion h

theorem decodeAddr_ram {a : Word} {i : Nat} (h : decodeAddr a = .ram i) :
    ramBase + i = a.toNat ∧ InRam a := by
  rcases decodeAddr_cases a with ⟨_, e⟩ | ⟨hr, e⟩ | ⟨_, k, e⟩ | ⟨k, _, e⟩ | ⟨e, _⟩ <;> rw [e] at h
  · exact Target.noConfusion h
  · have := Target.ram.inj h
    have h1 : 0xF780 ≤ a.toNat := hr.1
    exact ⟨by unfold ramBase at *; omega, hr⟩
  all_goals exact Target.noConfusion h

theorem decodeAddr_of_inRom {a : Word} (h : InRom a) : decodeAddr a = .rom a.toNat := if_pos h

theorem decodeAddr_ssu {a : Word} {k : SsuReg} (h : decodeAddr a = .ssu k) : a = k.addr := by
  rcases decodeAddr_cases a with ⟨_, e⟩ | ⟨_, e⟩ | ⟨_, k', e⟩ | ⟨k', hk, e⟩ | ⟨e, _⟩ <;> rw [e] at h
  case inr.inr.inr.inl => rw [hk, Target.ssu.inj h]
  all_goals exact Target.noConfusion h

theorem decodeAddr_of_inRam {a : Word} (h : InRam a) : decodeAddr a = .ram (a.toNat - ramBase) := by
  rcases decodeAddr_cases a with ⟨h0, _⟩ | ⟨_, e⟩ | ⟨hf, _⟩ | ⟨k, rfl, _⟩ | ⟨_, _, hr, _⟩
  · exact absurd h0 (by unfold InRom; omega)
  · exact e
  · rcases hf with rfl | rfl | rfl | rfl | rfl <;> exact absurd h (by decide)
  · cases k <;> exact absurd h (by decide)
  · exact absurd h hr

theorem decodeAddr_addr (k : SsuReg) : decodeAddr k.addr = .ssu k := by cases k <;> rfl

theorem inSsu_of_decodeAddr {a : Word} {k : SsuReg} (h : decodeAddr a = .ssu k) : InSsu a := by
  rw [decodeAddr_ssu h]; cases k <;> decide

theorem decodeAddr_inSsu {a : Word} (h : InSsu a) : ∃ k, decodeAddr a = .ssu k := by
  rcases h with rfl | rfl | rfl | rfl | rfl | rfl | rfl
  exacts [⟨.sscrh, rfl⟩, ⟨.sscrl, rfl⟩, ⟨.ssmr, rfl⟩, ⟨.sser, rfl⟩, ⟨.sssr, rfl⟩, ⟨.ssrdr, rfl⟩, ⟨.sstdr, rfl⟩]

theorem InSsu.not_inRam {a : Word} (h : InSsu a) : ¬ InRam a := by
  rcases h with rfl | rfl | rfl | rfl | rfl | rfl | rfl <;> decide

theorem InSsu.not_inRom {a : Word} (h : InSsu a) : ¬ InRom a := by
  rcases h with rfl | rfl | rfl | rfl | rfl | rfl | rfl <;> decide

/-! ## Reads -/

/-- What a read gives depends only on the two memories, the SSU and the parameters. -/
theorem State.read8_congr {s t : State} (hr : t.rom = s.rom) (hm : t.ram = s.ram) (hu : t.ssu = s.ssu)
    (hp : t.params = s.params) (a : Word) : (t.read8 a).1 = (s.read8 a).1 := by
  unfold State.read8
  split <;> simp only [hr, hm, hu, hp]

/-- The same where the two units differ, at an address that is not SSSR, if they store the same elsewhere. -/
theorem State.read8_congr_ssu {s t : State} (hr : t.rom = s.rom) (hm : t.ram = s.ram)
    (hp : t.params = s.params) (hu : ∀ k, k ≠ .sssr → t.ssu.stored k = s.ssu.stored k) {a : Word}
    (ha : a ≠ 0xF0E4) : (t.read8 a).1 = (s.read8 a).1 := by
  unfold State.read8
  split <;> simp only [hr, hm, hp]
  rename_i k hk
  have : k ≠ .sssr := by
    rintro rfl; exact ha (decodeAddr_ssu hk)
  simp only [Ssu.read, hu k this]

/-- The state after a byte read (R77): only a read of SSRDR changes anything, and it clears RDRF (R325). -/
theorem State.read8_state (s : State) (a : Word) :
    (s.read8 a).2 = if a = 0xF0E9 then { s with ssu := s.ssu.setStatus 1 false } else s := by
  by_cases ha : a = 0xF0E9
  · subst ha; rfl
  · rw [if_neg ha]
    unfold State.read8
    split <;> try rfl
    rename_i k h
    have hk := decodeAddr_ssu h
    cases k
    case ssrdr => exact absurd hk ha
    all_goals rfl

theorem setStatus_stored (u : Ssu) (i : Nat) (x : Bool) {k : SsuReg} (h : k ≠ .sssr) :
    (u.setStatus i x).stored k = u.stored k := by
  cases k <;> first | rfl | exact absurd rfl h

theorem setBit1_false (b : Byte) : setBit b 1 false = b &&& 0xFD := by
  revert b; decide

theorem ReadWorld.refl (s : State) {touched : Prop} (h : ¬ touched) : ReadWorld s s touched :=
  ⟨rfl, rfl, rfl, fun _ => rfl, fun h' => absurd h' h, rfl, fun _ _ => rfl⟩

/-- A byte read leaves everything but RDRF. -/
theorem State.readWorld_read8 (s : State) (a : Word) : ReadWorld s (s.read8 a).2 (a = 0xF0E9) := by
  rw [State.read8_state]
  by_cases ha : a = 0xF0E9
  · rw [if_pos ha]
    refine ⟨rfl, rfl, rfl, fun h => absurd ha h, fun _ => ?_, rfl, fun q hq => ?_⟩
    · simp [Ssu.setStatus, setBit1_false]
    · exact State.read8_congr_ssu (s := s) (t := { s with ssu := s.ssu.setStatus 1 false }) rfl rfl rfl
        (fun k hk => setStatus_stored s.ssu 1 false hk) (hq ha)
  · rw [if_neg ha]
    exact ReadWorld.refl s ha

/-- Two reads, of which not both can touch SSRDR and be followed by a read of SSSR, make one. -/
theorem ReadWorld.trans {s t r : State} {p q : Prop} (a : ReadWorld s t p) (b : ReadWorld t r q) :
    ReadWorld s r (p ∨ q) := by
  refine ⟨b.initialized.trans a.initialized, b.rom.trans a.rom, b.ram.trans a.ram, ?_, ?_,
    b.params.trans a.params, ?_⟩
  · intro h
    rw [b.untouched fun hq => h (.inr hq), a.untouched fun hp => h (.inl hp)]
  · intro h
    by_cases hq : q
    · rw [b.cleared hq]
      by_cases hp : p
      · rw [a.cleared hp]; simp [BitVec.and_assoc]
      · rw [a.untouched hp]
    · rw [b.untouched hq, a.cleared (h.resolve_right hq)]
  · intro x hx
    rw [b.bytes x fun hq => hx (.inr hq), a.bytes x fun hp => hx (.inl hp)]

/-- A read that reaches no register of the CPU. -/
theorem State.read8_cpu (s : State) (a : Word) :
    (s.read8 a).2.er = s.er ∧ (s.read8 a).2.pc = s.pc ∧ (s.read8 a).2.ccr = s.ccr
      ∧ (s.read8 a).2.freeIndex = s.freeIndex := by
  rw [State.read8_state]; split <;> exact ⟨rfl, rfl, rfl, rfl⟩

theorem even_ne_ssrdr (a : Word) : evenAddr a ≠ 0xF0E9 := by
  unfold evenAddr; intro h
  have := congrArg (fun x => x.getLsbD 0) h
  simp at this

/-- The even address is recovered from the odd one. -/
theorem odd_and_even (a : Word) : oddAddr a &&& 0xFFFE = evenAddr a := by
  ext i hi
  interval_cases i <;> simp [oddAddr, evenAddr]

theorem odd_eq_ssrdr (a : Word) : oddAddr a = 0xF0E9 ↔ touchesW a := by
  unfold touchesW
  constructor
  · intro h; rw [← odd_and_even, h]; rfl
  · intro h; unfold oddAddr; rw [h]; rfl

/-- A word read: the two bytes, high one at the even address (R64). -/
theorem State.read16_value (s : State) (a : Word) : (s.read16 a).1 = wordAt s a := by
  have h : (s.read8 (evenAddr a)).2 = s := by
    rw [State.read8_state, if_neg (even_ne_ssrdr a)]
  simp only [State.read16, wordAt, h]

/-- The state after a word read: that of reading the odd byte. -/
theorem State.read16_state (s : State) (a : Word) : (s.read16 a).2 = (s.read8 (oddAddr a)).2 := by
  have h : (s.read8 (evenAddr a)).2 = s := by
    rw [State.read8_state, if_neg (even_ne_ssrdr a)]
  simp only [State.read16, h]

theorem State.readWorld_read16 (s : State) (a : Word) : ReadWorld s (s.read16 a).2 (touchesW a) := by
  rw [State.read16_state, ← odd_eq_ssrdr]
  exact s.readWorld_read8 _

theorem State.read16_cpu (s : State) (a : Word) :
    (s.read16 a).2.er = s.er ∧ (s.read16 a).2.pc = s.pc ∧ (s.read16 a).2.ccr = s.ccr
      ∧ (s.read16 a).2.freeIndex = s.freeIndex := by
  rw [State.read16_state]; exact s.read8_cpu _

/-- A read of a word that does not cover SSRDR changes nothing. -/
theorem State.read16_quiet (s : State) {a : Word} (h : ¬ touchesW a) : (s.read16 a).2 = s := by
  rw [State.read16_state, State.read8_state, if_neg (by rwa [odd_eq_ssrdr])]

end Sys2Proof.Machine
end

