-- ==== Sys2Proof/Laws/Bus.lean ====
section
/-! SUPPORT. What a bus write changes (20_memory.md rules R66 to R74), and what the reads and writes of words
and longs come to. -/

namespace Sys2Proof.Machine

/-! ## The fields that a write keeps -/

theorem State.write8_eq (s : State) (a : Word) (v : Byte) :
    ∃ m u, s.write8 a v = { s with ram := m, ssu := u } := by
  unfold State.write8; split
  exacts [⟨s.ram, s.ssu, rfl⟩, ⟨_, s.ssu, rfl⟩, ⟨s.ram, s.ssu, rfl⟩, ⟨s.ram, _, rfl⟩, ⟨s.ram, s.ssu, rfl⟩]

@[simp] theorem State.write8_er (s : State) (a : Word) (v : Byte) : (s.write8 a v).er = s.er := by
  obtain ⟨m, u, e⟩ := s.write8_eq a v; rw [e]

@[simp] theorem State.write8_pc (s : State) (a : Word) (v : Byte) : (s.write8 a v).pc = s.pc := by
  obtain ⟨m, u, e⟩ := s.write8_eq a v; rw [e]

@[simp] theorem State.write8_ccr (s : State) (a : Word) (v : Byte) : (s.write8 a v).ccr = s.ccr := by
  obtain ⟨m, u, e⟩ := s.write8_eq a v; rw [e]

@[simp] theorem State.write8_initialized (s : State) (a : Word) (v : Byte) :
    (s.write8 a v).initialized = s.initialized := by obtain ⟨m, u, e⟩ := s.write8_eq a v; rw [e]

@[simp] theorem State.write8_rom (s : State) (a : Word) (v : Byte) : (s.write8 a v).rom = s.rom := by
  obtain ⟨m, u, e⟩ := s.write8_eq a v; rw [e]

@[simp] theorem State.write8_params (s : State) (a : Word) (v : Byte) : (s.write8 a v).params = s.params := by
  obtain ⟨m, u, e⟩ := s.write8_eq a v; rw [e]

@[simp] theorem State.write8_freeIndex (s : State) (a : Word) (v : Byte) :
    (s.write8 a v).freeIndex = s.freeIndex := by obtain ⟨m, u, e⟩ := s.write8_eq a v; rw [e]

@[simp] theorem State.write8_reg (s : State) (a : Word) (v : Byte) (n : Reg3) :
    (s.write8 a v).reg n = s.reg n := by simp [State.reg]

@[simp] theorem State.write8_flag (s : State) (a : Word) (v : Byte) (f : Flag) :
    (s.write8 a v).flag f = s.flag f := by simp [State.flag]

theorem State.write8_ssu (s : State) (a : Word) (v : Byte) :
    (s.write8 a v).ssu = ssuStore s.ssu (a, v) := by
  unfold State.write8 ssuStore
  cases decodeAddr a <;> rfl

/-- A store outside the SSU leaves it (R66). -/
theorem ssuStore_outside {u : Ssu} {c : Word × Byte} (h : ¬ InSsu c.1) : ssuStore u c = u := by
  unfold ssuStore; split <;> rename_i hd
  · exact absurd (inSsu_of_decodeAddr hd) h
  all_goals rfl

/-- What an address in neither RAM nor the SSU reads as depends on ROM and the parameters alone (R69, R70, R72). -/
theorem State.read8_congr_fixed {s t : State} (hr : t.rom = s.rom) (hp : t.params = s.params) {a : Word}
    (h : ¬ InRam a) (h' : ¬ InSsu a) : (t.read8 a).1 = (s.read8 a).1 := by
  unfold State.read8
  split <;> rename_i hd
  · simp [hr]
  · exact absurd (decodeAddr_ram hd).2 h
  · simp [hp]
  · exact absurd (inSsu_of_decodeAddr hd) h'
  · rfl

/-! ## A read after a write -/

/-- A byte written to RAM reads back (R73). -/
theorem State.read8_write8_same (s : State) {a : Word} (v : Byte) (h : InRam a) :
    ((s.write8 a v).read8 a).1 = v := by
  simp only [State.write8, State.read8, decodeAddr_of_inRam h, Memory.read_write, if_true]

/-- A write that is neither to RAM nor to the SSU changes nothing (R69, R70, R72). -/
theorem State.write8_dropped (s : State) {a : Word} (v : Byte) (hr : ¬ InRam a) (hs : ¬ InSsu a) :
    s.write8 a v = s := by
  unfold State.write8
  split <;> rename_i h
  · rfl
  · exact absurd (decodeAddr_ram h).2 hr
  · rfl
  · exact absurd (inSsu_of_decodeAddr h) hs
  · rfl

theorem stored_write (u : Ssu) (k j : SsuReg) (v : Byte) (hj : j ≠ k)
    (h : j = .sssr → k ≠ .sstdr) : (u.write k v).stored j = u.stored j := by
  cases k <;> cases j <;> first
    | rfl
    | exact absurd rfl hj
    | exact absurd rfl (h rfl)
    | (simp only [Ssu.write, Ssu.writeSstdr, Ssu.stored]; split <;> rfl)

/-- Every address but the one written reads as before, but for SSSR after a write of SSTDR. -/
theorem State.read8_write8_other (s : State) {a q : Word} (v : Byte) (hq : a ≠ q)
    (h : q = 0xF0E4 → a ≠ 0xF0EB) : ((s.write8 a v).read8 q).1 = (s.read8 q).1 := by
  unfold State.write8
  split <;> rename_i ha
  · rfl
  · rename_i i
    have hne : ∀ j, decodeAddr q = .ram j → ramBase + j ≠ ramBase + i := by
      intro j hj e
      have h1 := (decodeAddr_ram ha).1
      have h2 := (decodeAddr_ram hj).1
      exact hq (BitVec.eq_of_toNat_eq (by omega))
    unfold State.read8
    split <;> simp only
    rename_i j hj
    rw [Memory.read_write, if_neg (hne j hj)]
  · rfl
  · rename_i k
    unfold State.read8
    split <;> simp only
    rename_i j hj
    have hk := decodeAddr_ssu ha
    have hj' := decodeAddr_ssu hj
    simp only [Ssu.read]
    rw [stored_write]
    · rintro rfl; exact hq (hk.trans hj'.symm)
    · rintro rfl rfl; exact h hj' hk
  · rfl

theorem State.storeWorld_write8 (s : State) (a : Word) (v : Byte) : StoreWorld s (s.write8 a v) [(a, v)] where
  initialized := by simp
  rom := by simp
  ssu := by simp [State.write8_ssu]
  params := by simp
  inRam := by
    intro c hc hr
    rw [List.mem_singleton.1 hc] at hr ⊢
    exact s.read8_write8_same v hr
  dropped := by
    intro c hc hr hs
    rw [List.mem_singleton.1 hc] at hr hs ⊢
    rw [s.write8_dropped v hr hs]
  outside := by
    intro q hq h
    exact s.read8_write8_other v (hq (a, v) (by simp)) fun e => h e (a, v) (by simp)

/-- Stores at different addresses, one after the other. -/
theorem StoreWorld.append {s t r : State} {xs ys : List (Word × Byte)} (a : StoreWorld s t xs)
    (b : StoreWorld t r ys) (hd : ∀ c ∈ xs, ∀ d ∈ ys, c.1 ≠ d.1) : StoreWorld s r (xs ++ ys) where
  initialized := b.initialized.trans a.initialized
  rom := b.rom.trans a.rom
  ssu := by rw [List.foldl_append, b.ssu, a.ssu]
  params := b.params.trans a.params
  inRam := by
    intro c hc hr
    rcases List.mem_append.1 hc with h | h
    · rw [b.outside c.1 (fun d hd' => (hd c h d hd').symm)
        (fun e => absurd hr (by rw [e]; decide)), a.inRam c h hr]
    · exact b.inRam c h hr
  dropped := by
    intro c hc hr hs
    have hne : c.1 ≠ 0xF0E4 := by rintro e; exact hs (by rw [e]; decide)
    rcases List.mem_append.1 hc with h | h
    · rw [b.outside c.1 (fun d hd' => (hd c h d hd').symm) (fun e => absurd e hne), a.dropped c h hr hs]
    · rw [b.dropped c h hr hs, a.outside c.1 (fun d hd' => hd d hd' c h) (fun e => absurd e hne)]
  outside := by
    intro q hq h
    rw [b.outside q (fun c hc => hq c (List.mem_append_right _ hc))
        (fun e c hc => h e c (List.mem_append_right _ hc)),
      a.outside q (fun c hc => hq c (List.mem_append_left _ hc))
        (fun e c hc => h e c (List.mem_append_left _ hc))]

/-! ## Words and longs -/

theorem evenAddr_toNat (a : Word) : (evenAddr a).toNat = 2 * (a.toNat / 2) := by
  have e : evenAddr a = (a >>> 1) <<< 1 := by
    ext i hi
    interval_cases i <;> simp [evenAddr]
  rw [e, BitVec.toNat_shiftLeft, BitVec.toNat_ushiftRight, Nat.shiftLeft_eq, Nat.shiftRight_eq_div_pow]
  have := a.isLt
  omega

theorem oddAddr_toNat (a : Word) : (oddAddr a).toNat = 2 * (a.toNat / 2) + 1 := by
  have e : oddAddr a = evenAddr a + 1 := by
    unfold oddAddr
    refine (BitVec.add_eq_or_of_and_eq_zero _ _ ?_).symm
    ext i hi
    interval_cases i <;> simp [evenAddr]
  rw [e, BitVec.toNat_add, evenAddr_toNat]
  have := a.isLt
  simp only [BitVec.reduceToNat]
  omega

theorem evenAddr_ne_oddAddr (a b : Word) : evenAddr a ≠ oddAddr b := by
  intro h
  have := congrArg BitVec.toNat h
  rw [evenAddr_toNat, oddAddr_toNat] at this
  omega

theorem toNat_add_two (a : Word) : (a + 2).toNat = (a.toNat + 2) % 65536 := by
  rw [BitVec.toNat_add]; rfl

theorem evenAddr_ne_next (a : Word) : evenAddr a ≠ evenAddr (a + 2) := by
  intro h
  have := congrArg BitVec.toNat h
  rw [evenAddr_toNat, evenAddr_toNat, toNat_add_two] at this
  have := a.isLt
  omega

theorem oddAddr_ne_next (a : Word) : oddAddr a ≠ oddAddr (a + 2) := by
  intro h
  have := congrArg BitVec.toNat h
  rw [oddAddr_toNat, oddAddr_toNat, toNat_add_two] at this
  have := a.isLt
  omega

@[simp] theorem State.write16_er (s : State) (a v : Word) : (s.write16 a v).er = s.er := by
  simp [State.write16]

@[simp] theorem State.write16_pc (s : State) (a v : Word) : (s.write16 a v).pc = s.pc := by
  simp [State.write16]

@[simp] theorem State.write16_ccr (s : State) (a v : Word) : (s.write16 a v).ccr = s.ccr := by
  simp [State.write16]

@[simp] theorem State.write16_freeIndex (s : State) (a v : Word) :
    (s.write16 a v).freeIndex = s.freeIndex := by simp [State.write16]

@[simp] theorem State.write16_reg (s : State) (a v : Word) (n : Reg3) : (s.write16 a v).reg n = s.reg n := by
  simp [State.reg]

@[simp] theorem State.write32_er (s : State) (a : Word) (v : Long) : (s.write32 a v).er = s.er := by
  simp [State.write32]

@[simp] theorem State.write32_pc (s : State) (a : Word) (v : Long) : (s.write32 a v).pc = s.pc := by
  simp [State.write32]

@[simp] theorem State.write32_ccr (s : State) (a : Word) (v : Long) : (s.write32 a v).ccr = s.ccr := by
  simp [State.write32]

@[simp] theorem State.write32_freeIndex (s : State) (a : Word) (v : Long) :
    (s.write32 a v).freeIndex = s.freeIndex := by simp [State.write32]

@[simp] theorem State.write32_reg (s : State) (a : Word) (v : Long) (n : Reg3) :
    (s.write32 a v).reg n = s.reg n := by simp [State.reg]

theorem State.storeWorld_write16 (s : State) (a v : Word) :
    StoreWorld s (s.write16 a v) (wordBytes a v) := by
  refine (s.storeWorld_write8 _ _).append (State.storeWorld_write8 _ _ _) ?_
  intro c hc d hd
  rw [List.mem_singleton.1 hc, List.mem_singleton.1 hd]
  exact evenAddr_ne_oddAddr a a

theorem State.storeWorld_write32 (s : State) (a : Word) (v : Long) :
    StoreWorld s (s.write32 a v) (longBytes a v) := by
  refine (s.storeWorld_write16 _ _).append (State.storeWorld_write16 _ _ _) ?_
  intro c hc d hd
  simp only [wordBytes, List.mem_cons, List.not_mem_nil, or_false] at hc hd
  rcases hc with rfl | rfl <;> rcases hd with rfl | rfl
  · exact evenAddr_ne_next a
  · exact evenAddr_ne_oddAddr _ _
  · exact (evenAddr_ne_oddAddr _ _).symm
  · exact oddAddr_ne_next a

/-- A word read after a read that leaves the odd byte's register alone gives what it gave before. -/
theorem ReadWorld.wordAt {s t : State} {p : Prop} (h : ReadWorld s t p) {a : Word}
    (ha : p → evenAddr a ≠ 0xF0E4) : wordAt t a = wordAt s a := by
  unfold Machine.wordAt
  rw [h.bytes _ ha, h.bytes _ fun _ e => ?_]
  have := congrArg BitVec.toNat e
  rw [oddAddr_toNat, show (0xF0E4 : Word).toNat = 61668 from rfl] at this
  omega

theorem next_ne_sssr {a : Word} (h : touchesW a) : evenAddr (a + 2) ≠ 0xF0E4 := by
  intro e
  have h1 : 2 * (a.toNat / 2) = 61672 := by
    rw [← evenAddr_toNat, show evenAddr a = 0xF0E8 from h]; rfl
  have h2 : 2 * ((a.toNat + 2) % 65536 / 2) = 61668 := by
    rw [← toNat_add_two, ← evenAddr_toNat, e]; rfl
  clear h e
  omega

theorem State.read32_value (s : State) (a : Word) : (s.read32 a).1 = longAt s a := by
  simp only [State.read32, State.read16_value, longAt]
  rw [(s.readWorld_read16 a).wordAt fun h => next_ne_sssr h]

theorem State.readWorld_read32 (s : State) (a : Word) : ReadWorld s (s.read32 a).2 (touchesL a) := by
  have h := (s.readWorld_read16 a).trans ((s.read16 a).2.readWorld_read16 (a + 2))
  simpa only [State.read32, touchesL] using h

theorem State.read32_cpu (s : State) (a : Word) :
    (s.read32 a).2.er = s.er ∧ (s.read32 a).2.pc = s.pc ∧ (s.read32 a).2.ccr = s.ccr
      ∧ (s.read32 a).2.freeIndex = s.freeIndex := by
  have h := (s.read16 a).2.read16_cpu (a + 2)
  obtain ⟨b1, b2, b3, b4⟩ := s.read16_cpu a
  simp only [b1, b2, b3, b4] at h
  simpa only [State.read32] using h

/-! ## Frames along states that agree -/

theorem SameWorld.refl (s : State) : SameWorld s s := ⟨rfl, rfl, rfl, rfl, rfl, fun _ => rfl⟩

/-- A state that agrees on the two memories, the SSU, `initialized` and the parameters. -/
theorem SameWorld.of_fields {s t : State} (h1 : t.initialized = s.initialized) (h2 : t.rom = s.rom)
    (h3 : t.ram = s.ram) (h4 : t.ssu = s.ssu) (h5 : t.params = s.params) : SameWorld s t :=
  ⟨h1, h2, h3, h4, h5, State.read8_congr h2 h3 h4 h5⟩

theorem SameWorld.trans {s t r : State} (a : SameWorld s t) (b : SameWorld t r) : SameWorld s r :=
  ⟨b.initialized.trans a.initialized, b.rom.trans a.rom, b.ram.trans a.ram, b.ssu.trans a.ssu,
    b.params.trans a.params, fun q => (b.bytes q).trans (a.bytes q)⟩

theorem ReadWorld.of_same {s t r : State} {p : Prop} (a : ReadWorld s t p) (b : SameWorld t r) :
    ReadWorld s r p :=
  ⟨b.initialized.trans a.initialized, b.rom.trans a.rom, b.ram.trans a.ram,
    fun h => b.ssu.trans (a.untouched h), fun h => b.ssu.trans (a.cleared h), b.params.trans a.params,
    fun q hq => (b.bytes q).trans (a.bytes q hq)⟩

theorem StoreWorld.of_same {s t r : State} {xs : List (Word × Byte)} (a : StoreWorld s t xs)
    (b : SameWorld t r) : StoreWorld s r xs :=
  ⟨b.initialized.trans a.initialized, b.rom.trans a.rom, b.ssu.trans a.ssu, b.params.trans a.params,
    fun c hc h => (b.bytes _).trans (a.inRam c hc h),
    fun c hc h h' => (b.bytes _).trans (a.dropped c hc h h'),
    fun q h h' => (b.bytes q).trans (a.outside q h h')⟩

theorem StoreWorld.from_same {s t r : State} {xs : List (Word × Byte)} (b : SameWorld s t)
    (a : StoreWorld t r xs) : StoreWorld s r xs :=
  ⟨a.initialized.trans b.initialized, a.rom.trans b.rom, by rw [a.ssu, b.ssu], a.params.trans b.params,
    a.inRam, fun c hc h h' => (a.dropped c hc h h').trans (b.bytes _),
    fun q h h' => (a.outside q h h').trans (b.bytes q)⟩

end Sys2Proof.Machine
end

