-- ==== Sys2Proof/Laws/Flags.lean ====
section
/-! SUPPORT. The flags: what a write of one flag does to every flag, and what each flag computation leaves
(10_state.md rules R29, R30). -/

namespace Sys2Proof.Machine

theorem getLsbD_setBit (b : Byte) (i j : Nat) (x : Bool) (hi : i < 8) :
    (setBit b i x).getLsbD j = if j = i then x else b.getLsbD j := by
  unfold setBit
  cases x <;> by_cases h : j = i
  · subst h; simp
  · simp [h]; intro hb
    have : j < 8 := by
      by_contra hc
      rw [BitVec.getLsbD_of_ge _ _ (by omega)] at hb; cases hb
    refine ⟨this, ?_⟩
    by_cases h8 : j < i
    · simp [h8]
    · simp [h8, show j - i ≠ 0 by omega]
  · subst h; simp [hi]
  · simp only [h, if_true, if_false, BitVec.getLsbD_or, BitVec.getLsbD_shiftLeft, BitVec.getLsbD_one]
    by_cases h8 : j < i
    · simp [h8]
    · simp [show ¬ (j - i = 0) by omega]

theorem Flag.bit_lt (f : Flag) : f.bit < 8 := by cases f <;> decide

theorem Flag.bit_inj {f g : Flag} : f.bit = g.bit ↔ f = g := by
  cases f <;> cases g <;> decide

@[simp] theorem State.flag_setFlag (s : State) (f g : Flag) (x : Bool) :
    (s.setFlag f x).flag g = if g = f then x else s.flag g := by
  simp only [State.flag, State.setFlag, getLsbD_setBit _ _ _ _ f.bit_lt, Flag.bit_inj]

/-- CCR is its eight flags. -/
theorem State.ccr_ext {s t : State} (h : ∀ f, t.flag f = s.flag f) : t.ccr = s.ccr := by
  apply BitVec.eq_of_getLsbD_eq
  intro i hi
  have hf : ∃ f : Flag, f.bit = i := by
    have : ∀ i : Fin 8, ∃ f : Flag, f.bit = i := by
      intro i; fin_cases i
      exacts [⟨.c, rfl⟩, ⟨.v, rfl⟩, ⟨.z, rfl⟩, ⟨.n, rfl⟩, ⟨.u, rfl⟩, ⟨.h, rfl⟩, ⟨.ui, rfl⟩, ⟨.i, rfl⟩]
    exact this ⟨i, hi⟩
  obtain ⟨f, rfl⟩ := hf
  exact h f

/-- What writing N and Z leaves. -/
theorem State.flagsAre_setNZ (s : State) (n z : Bool) :
    FlagsAre s (s.setNZ n z) (s.flag .h) n z (s.flag .v) (s.flag .c) := by
  constructor <;> simp [State.setNZ]

theorem State.moveFlags_logicN {w : Nat} (s : State) (v : BitVec w) : MoveFlags s (s.logicN v) v := by
  constructor <;> simp [State.logicN, State.setNZOf, State.setNZ]

theorem State.flagsAre_incFlags {w : Nat} (s : State) (r : BitVec w) (v : Bool) :
    FlagsAre s (s.incFlags r v) (s.flag .h) r.msb (decide (r = 0)) v (s.flag .c) := by
  constructor <;> simp [State.incFlags, State.setNZOf, State.setNZ]

theorem State.flagsAre_shiftFlags {w : Nat} (s : State) (x : ShiftResult w) :
    FlagsAre s (s.shiftFlags x) (s.flag .h) x.r.msb (decide (x.r = 0)) x.v x.c := by
  constructor <;> simp [State.shiftFlags, State.setNZOf, State.setNZ]

theorem State.flagsAre_extendFlags {w : Nat} (s : State) (r : BitVec w) :
    FlagsAre s (s.extendFlags r) (s.flag .h) false (decide (r = 0)) false (s.flag .c) := by
  constructor <;> simp [State.extendFlags, State.setNZ]

theorem State.flagsAre_setArith (s : State) (f : ArithFlags) :
    FlagsAre s (s.setArith f) f.h f.n f.z f.v f.c := by
  constructor <;> simp [State.setArith]

theorem State.flagsAre_setArithSticky (s : State) (f : ArithFlags) :
    FlagsAre s (s.setArithSticky f) f.h f.n (s.flag .z && f.z) f.v f.c := by
  constructor <;> simp [State.setArithSticky, State.setArith]

theorem State.flagsAre_setZ (s : State) (z : Bool) :
    FlagsAre s (s.setFlag .z z) (s.flag .h) (s.flag .n) z (s.flag .v) (s.flag .c) := by
  constructor <;> simp

theorem State.flagsAre_setC (s : State) (c : Bool) :
    FlagsAre s (s.setFlag .c c) (s.flag .h) (s.flag .n) (s.flag .z) (s.flag .v) c := by
  constructor <;> simp

/-- A frame of flags moves along states that agree on CCR. -/
theorem FlagsAre.of_ccr {s s' t t' : State} {h n z v c : Bool} (a : FlagsAre s t h n z v c)
    (hs : s'.ccr = s.ccr) (ht : t'.ccr = t.ccr) : FlagsAre s' t' h n z v c := by
  have es : ∀ f, s'.flag f = s.flag f := fun f => by simp [State.flag, hs]
  have et : ∀ f, t'.flag f = t.flag f := fun f => by simp [State.flag, ht]
  constructor <;> simp only [es, et]
  exacts [a.h, a.n, a.z, a.v, a.c, a.i, a.ui, a.u]

/-! ## Sums and differences -/

theorem addN_fst {w : Nat} (a b : BitVec w) (cin : Bool) :
    (addN a b cin).1 = BitVec.ofNat w (a.toNat + b.toNat + cin.toNat) := rfl

theorem subN_fst {w : Nat} (a b : BitVec w) (bin : Bool) :
    (subN a b bin).1 = BitVec.ofInt w (a.toNat - b.toNat - bin.toNat) := rfl

end Sys2Proof.Machine
end

