-- ==== Sys2Proof/Laws/Operands.lean ====
section
/-! SUPPORT. One lemma per shared operand operation that says once all it does: the register it writes and that it
writes no other, every flag, and the world outside the CPU's registers. -/

namespace Sys2Proof.Machine

/-! ## Views along states with the same register file -/

theorem State.reg_congr {s t : State} (h : t.er = s.er) (n : Reg3) : t.reg n = s.reg n := by
  simp only [State.reg, h]

theorem State.r16_congr {s t : State} (h : t.er = s.er) (r : Reg4) : t.r16 r = s.r16 r := by
  simp only [State.r16, State.reg_congr h]

theorem State.r8_congr {s t : State} (h : t.er = s.er) (r : Reg4) : t.r8 r = s.r8 r := by
  simp only [State.r8, State.reg_congr h]

/-- Adding to a register, along states with the same register file. -/
theorem er_setReg_congr {s t : State} (h : t.er = s.er) (n : Reg3) (k : Long) :
    (t.setReg n (t.reg n + k)).er = (s.setReg n (s.reg n + k)).er := by
  simp only [State.setReg, State.reg, h]

theorem State.flag_congr {s t : State} (h : t.ccr = s.ccr) (f : Flag) : t.flag f = s.flag f := by
  simp only [State.flag, h]

theorem OnlyByte.of_er {s t s' t' : State} {r : Reg4} {v : Byte} (a : OnlyByte s t r v) (hs : s'.er = s.er)
    (ht : t'.er = t.er) : OnlyByte s' t' r v :=
  ⟨(State.r8_congr ht r).trans a.1,
    fun q hq => (State.r8_congr ht q).trans ((a.2.1 q hq).trans (State.r8_congr hs q).symm),
    fun n => by rw [State.reg_congr ht, State.reg_congr hs]; exact a.2.2 n⟩

theorem OnlyWord.of_er {s t s' t' : State} {r : Reg4} {v : Word} (a : OnlyWord s t r v) (hs : s'.er = s.er)
    (ht : t'.er = t.er) : OnlyWord s' t' r v :=
  ⟨(State.r16_congr ht r).trans a.1,
    fun q hq => (State.r16_congr ht q).trans ((a.2 q hq).trans (State.r16_congr hs q).symm)⟩

theorem OnlyLong.of_er {s t s' t' : State} {n : Reg3} {v : Long} (a : OnlyLong s t n v) (hs : s'.er = s.er)
    (ht : t'.er = t.er) : OnlyLong s' t' n v :=
  ⟨(State.reg_congr ht n).trans a.1,
    fun m hm => (State.reg_congr ht m).trans ((a.2 m hm).trans (State.reg_congr hs m).symm)⟩

/-- The flags of a value moved, along states that agree on CCR. -/
theorem MoveFlags.of_ccr {w : Nat} {s s' t t' : State} {v : BitVec w} (a : MoveFlags s t v)
    (hs : s'.ccr = s.ccr) (ht : t'.ccr = t.ccr) : MoveFlags s' t' v := by
  unfold MoveFlags at *
  rw [State.flag_congr hs .h, State.flag_congr hs .c]
  exact FlagsAre.of_ccr a hs ht

/-! ## Register results -/

/-- What every byte result without a memory operand does: the register, any flags, nothing else. -/
theorem State.setR8_world (s : State) (r : Reg4) (v : Byte) (c : Byte) :
    OnlyByte s { s.setR8 r v with ccr := c } r v ∧ SameWorld s { s.setR8 r v with ccr := c } :=
  ⟨(s.onlyByte_setR8 r v).of_er rfl rfl, SameWorld.of_fields rfl rfl rfl rfl rfl⟩

theorem State.moveB_spec (s : State) (rd : Reg4) (v : Byte) :
    OnlyByte s (s.moveB rd v) rd v ∧ MoveFlags s (s.moveB rd v) v ∧ SameWorld s (s.moveB rd v)
      ∧ (s.moveB rd v).pc = s.pc :=
  ⟨(s.onlyByte_setR8 rd v).of_er rfl rfl, ((s.setR8 rd v).moveFlags_logicN v).of_ccr rfl rfl,
    SameWorld.of_fields rfl rfl rfl rfl rfl, rfl⟩

theorem State.moveW_spec (s : State) (rd : Reg4) (v : Word) :
    OnlyWord s (s.moveW rd v) rd v ∧ MoveFlags s (s.moveW rd v) v ∧ SameWorld s (s.moveW rd v)
      ∧ (s.moveW rd v).pc = s.pc :=
  ⟨(s.onlyWord_setR16 rd v).of_er rfl rfl, ((s.setR16 rd v).moveFlags_logicN v).of_ccr rfl rfl,
    SameWorld.of_fields rfl rfl rfl rfl rfl, rfl⟩

theorem State.moveL_spec (s : State) (n : Reg3) (v : Long) :
    OnlyLong s (s.moveL n v) n v ∧ MoveFlags s (s.moveL n v) v ∧ SameWorld s (s.moveL n v)
      ∧ (s.moveL n v).pc = s.pc :=
  ⟨(s.onlyLong_setReg n v).of_er rfl rfl, ((s.setReg n v).moveFlags_logicN v).of_ccr rfl rfl,
    SameWorld.of_fields rfl rfl rfl rfl rfl, rfl⟩

theorem State.arithB_spec (s : State) (rd : Reg4) (x : Byte × ArithFlags) :
    OnlyByte s (s.arithB rd x) rd x.1 ∧ FlagsAre s (s.arithB rd x) x.2.h x.2.n x.2.z x.2.v x.2.c
      ∧ SameWorld s (s.arithB rd x) ∧ (s.arithB rd x).pc = s.pc :=
  ⟨(s.onlyByte_setR8 rd x.1).of_er rfl rfl, ((s.setR8 rd x.1).flagsAre_setArith x.2).of_ccr rfl rfl,
    SameWorld.of_fields rfl rfl rfl rfl rfl, rfl⟩

theorem State.arithW_spec (s : State) (rd : Reg4) (x : Word × ArithFlags) :
    OnlyWord s (s.arithW rd x) rd x.1 ∧ FlagsAre s (s.arithW rd x) x.2.h x.2.n x.2.z x.2.v x.2.c
      ∧ SameWorld s (s.arithW rd x) ∧ (s.arithW rd x).pc = s.pc :=
  ⟨(s.onlyWord_setR16 rd x.1).of_er rfl rfl, ((s.setR16 rd x.1).flagsAre_setArith x.2).of_ccr rfl rfl,
    SameWorld.of_fields rfl rfl rfl rfl rfl, rfl⟩

theorem State.arithL_spec (s : State) (n : Reg3) (x : Long × ArithFlags) :
    OnlyLong s (s.arithL n x) n x.1 ∧ FlagsAre s (s.arithL n x) x.2.h x.2.n x.2.z x.2.v x.2.c
      ∧ SameWorld s (s.arithL n x) ∧ (s.arithL n x).pc = s.pc :=
  ⟨(s.onlyLong_setReg n x.1).of_er rfl rfl, ((s.setReg n x.1).flagsAre_setArith x.2).of_ccr rfl rfl,
    SameWorld.of_fields rfl rfl rfl rfl rfl, rfl⟩

theorem State.arithStickyB_spec (s : State) (rd : Reg4) (x : Byte × ArithFlags) :
    OnlyByte s (s.arithStickyB rd x) rd x.1
      ∧ FlagsAre s (s.arithStickyB rd x) x.2.h x.2.n (s.flag .z && x.2.z) x.2.v x.2.c
      ∧ SameWorld s (s.arithStickyB rd x) ∧ (s.arithStickyB rd x).pc = s.pc :=
  ⟨(s.onlyByte_setR8 rd x.1).of_er rfl rfl, ((s.setR8 rd x.1).flagsAre_setArithSticky x.2).of_ccr rfl rfl,
    SameWorld.of_fields rfl rfl rfl rfl rfl, rfl⟩

theorem State.incB_spec (s : State) (rd : Reg4) (r : Byte) (v : Bool) :
    OnlyByte s (s.incB rd r v) rd r
      ∧ FlagsAre s (s.incB rd r v) (s.flag .h) r.msb (decide (r = 0)) v (s.flag .c)
      ∧ SameWorld s (s.incB rd r v) ∧ (s.incB rd r v).pc = s.pc :=
  ⟨(s.onlyByte_setR8 rd r).of_er rfl rfl, ((s.setR8 rd r).flagsAre_incFlags r v).of_ccr rfl rfl,
    SameWorld.of_fields rfl rfl rfl rfl rfl, rfl⟩

theorem State.incW_spec (s : State) (rd : Reg4) (r : Word) (v : Bool) :
    OnlyWord s (s.incW rd r v) rd r
      ∧ FlagsAre s (s.incW rd r v) (s.flag .h) r.msb (decide (r = 0)) v (s.flag .c)
      ∧ SameWorld s (s.incW rd r v) ∧ (s.incW rd r v).pc = s.pc :=
  ⟨(s.onlyWord_setR16 rd r).of_er rfl rfl, ((s.setR16 rd r).flagsAre_incFlags r v).of_ccr rfl rfl,
    SameWorld.of_fields rfl rfl rfl rfl rfl, rfl⟩

theorem State.incL_spec (s : State) (n : Reg3) (r : Long) (v : Bool) :
    OnlyLong s (s.incL n r v) n r
      ∧ FlagsAre s (s.incL n r v) (s.flag .h) r.msb (decide (r = 0)) v (s.flag .c)
      ∧ SameWorld s (s.incL n r v) ∧ (s.incL n r v).pc = s.pc :=
  ⟨(s.onlyLong_setReg n r).of_er rfl rfl, ((s.setReg n r).flagsAre_incFlags r v).of_ccr rfl rfl,
    SameWorld.of_fields rfl rfl rfl rfl rfl, rfl⟩

theorem State.shiftB_spec (s : State) (rd : Reg4) (x : ShiftResult 8) :
    OnlyByte s (s.shiftB rd x) rd x.r
      ∧ FlagsAre s (s.shiftB rd x) (s.flag .h) x.r.msb (decide (x.r = 0)) x.v x.c
      ∧ SameWorld s (s.shiftB rd x) ∧ (s.shiftB rd x).pc = s.pc :=
  ⟨(s.onlyByte_setR8 rd x.r).of_er rfl rfl, ((s.setR8 rd x.r).flagsAre_shiftFlags x).of_ccr rfl rfl,
    SameWorld.of_fields rfl rfl rfl rfl rfl, rfl⟩

theorem State.shiftW_spec (s : State) (rd : Reg4) (x : ShiftResult 16) :
    OnlyWord s (s.shiftW rd x) rd x.r
      ∧ FlagsAre s (s.shiftW rd x) (s.flag .h) x.r.msb (decide (x.r = 0)) x.v x.c
      ∧ SameWorld s (s.shiftW rd x) ∧ (s.shiftW rd x).pc = s.pc :=
  ⟨(s.onlyWord_setR16 rd x.r).of_er rfl rfl, ((s.setR16 rd x.r).flagsAre_shiftFlags x).of_ccr rfl rfl,
    SameWorld.of_fields rfl rfl rfl rfl rfl, rfl⟩

theorem State.shiftL_spec (s : State) (n : Reg3) (x : ShiftResult 32) :
    OnlyLong s (s.shiftL n x) n x.r
      ∧ FlagsAre s (s.shiftL n x) (s.flag .h) x.r.msb (decide (x.r = 0)) x.v x.c
      ∧ SameWorld s (s.shiftL n x) ∧ (s.shiftL n x).pc = s.pc :=
  ⟨(s.onlyLong_setReg n x.r).of_er rfl rfl, ((s.setReg n x.r).flagsAre_shiftFlags x).of_ccr rfl rfl,
    SameWorld.of_fields rfl rfl rfl rfl rfl, rfl⟩

/-! ## Loads -/

theorem State.loadB_spec (s : State) (ea : Word) (rd : Reg4) :
    OnlyByte s (s.loadB ea rd) rd (s.read8 ea).1 ∧ MoveFlags s (s.loadB ea rd) (s.read8 ea).1
      ∧ ReadWorld s (s.loadB ea rd) (ea = 0xF0E9) ∧ (s.loadB ea rd).pc = s.pc := by
  obtain ⟨e1, e2, e3, _⟩ := s.read8_cpu ea
  obtain ⟨a, b, c, d⟩ := (s.read8 ea).2.moveB_spec rd (s.read8 ea).1
  exact ⟨a.of_er e1.symm rfl, b.of_ccr e3.symm rfl, (s.readWorld_read8 ea).of_same c, d.trans e2⟩

theorem State.loadW_spec (s : State) (ea : Word) (rd : Reg4) :
    OnlyWord s (s.loadW ea rd) rd (wordAt s ea) ∧ MoveFlags s (s.loadW ea rd) (wordAt s ea)
      ∧ ReadWorld s (s.loadW ea rd) (touchesW ea) ∧ (s.loadW ea rd).pc = s.pc := by
  obtain ⟨e1, e2, e3, _⟩ := s.read16_cpu ea
  obtain ⟨a, b, c, d⟩ := (s.read16 ea).2.moveW_spec rd (s.read16 ea).1
  rw [← s.read16_value ea]
  exact ⟨a.of_er e1.symm rfl, b.of_ccr e3.symm rfl, (s.readWorld_read16 ea).of_same c, d.trans e2⟩

theorem State.loadL_spec (s : State) (ea : Word) (n : Reg3) :
    OnlyLong s (s.loadL ea n) n (longAt s ea) ∧ MoveFlags s (s.loadL ea n) (longAt s ea)
      ∧ ReadWorld s (s.loadL ea n) (touchesL ea) ∧ (s.loadL ea n).pc = s.pc := by
  obtain ⟨e1, e2, e3, _⟩ := s.read32_cpu ea
  obtain ⟨a, b, c, d⟩ := (s.read32 ea).2.moveL_spec n (s.read32 ea).1
  rw [← s.read32_value ea]
  exact ⟨a.of_er e1.symm rfl, b.of_ccr e3.symm rfl, (s.readWorld_read32 ea).of_same c, d.trans e2⟩

/-- Post-increment byte load: the registers are those of writing the value into the incremented file. -/
theorem State.loadPostB_spec (s : State) (ers : Reg3) (rd : Reg4) :
    OnlyByte (s.setReg ers (s.reg ers + 1)) (s.loadPostB ers rd) rd (s.read8 (s.eaInd ers)).1
      ∧ MoveFlags s (s.loadPostB ers rd) (s.read8 (s.eaInd ers)).1
      ∧ ReadWorld s (s.loadPostB ers rd) (s.eaInd ers = 0xF0E9) ∧ (s.loadPostB ers rd).pc = s.pc := by
  obtain ⟨e1, e2, e3, _⟩ := s.read8_cpu (s.eaInd ers)
  obtain ⟨a, b, _, d⟩ := ((s.read8 (s.eaInd ers)).2.bump ers 1).moveB_spec rd (s.read8 (s.eaInd ers)).1
  refine ⟨a.of_er ?_ rfl, b.of_ccr e3.symm rfl,
    (s.readWorld_read8 _).of_same (SameWorld.of_fields rfl rfl rfl rfl rfl), d.trans e2⟩
  exact (er_setReg_congr e1 ers _).symm

theorem State.loadPostW_spec (s : State) (ers : Reg3) (rd : Reg4) :
    OnlyWord (s.setReg ers (s.reg ers + 2)) (s.loadPostW ers rd) rd (wordAt s (s.eaInd ers))
      ∧ MoveFlags s (s.loadPostW ers rd) (wordAt s (s.eaInd ers))
      ∧ ReadWorld s (s.loadPostW ers rd) (touchesW (s.eaInd ers)) ∧ (s.loadPostW ers rd).pc = s.pc := by
  obtain ⟨e1, e2, e3, _⟩ := s.read16_cpu (s.eaInd ers)
  obtain ⟨a, b, _, d⟩ := ((s.read16 (s.eaInd ers)).2.bump ers 2).moveW_spec rd (s.read16 (s.eaInd ers)).1
  rw [← s.read16_value]
  refine ⟨a.of_er ?_ rfl, b.of_ccr e3.symm rfl,
    (s.readWorld_read16 _).of_same (SameWorld.of_fields rfl rfl rfl rfl rfl), d.trans e2⟩
  exact (er_setReg_congr e1 ers _).symm

theorem State.loadPostL_spec (s : State) (ers erd : Reg3) :
    OnlyLong (s.setReg ers (s.reg ers + 4)) (s.loadPostL ers erd) erd (longAt s (s.eaInd ers))
      ∧ MoveFlags s (s.loadPostL ers erd) (longAt s (s.eaInd ers))
      ∧ ReadWorld s (s.loadPostL ers erd) (touchesL (s.eaInd ers)) ∧ (s.loadPostL ers erd).pc = s.pc := by
  obtain ⟨e1, e2, e3, _⟩ := s.read32_cpu (s.eaInd ers)
  obtain ⟨a, b, _, d⟩ := ((s.read32 (s.eaInd ers)).2.bump ers 4).moveL_spec erd (s.read32 (s.eaInd ers)).1
  rw [← s.read32_value]
  refine ⟨a.of_er ?_ rfl, b.of_ccr e3.symm rfl,
    (s.readWorld_read32 _).of_same (SameWorld.of_fields rfl rfl rfl rfl rfl), d.trans e2⟩
  exact (er_setReg_congr e1 ers _).symm

/-! ## Stores -/

theorem State.storeB_spec (s : State) (ea : Word) (v : Byte) :
    NoRegister s (s.storeB ea v) ∧ MoveFlags s (s.storeB ea v) v ∧ StoreWorld s (s.storeB ea v) [(ea, v)]
      ∧ (s.storeB ea v).pc = s.pc :=
  ⟨fun n => by simp [State.storeB],
    ((s.write8 ea v).moveFlags_logicN v).of_ccr (by simp) rfl,
    (s.storeWorld_write8 ea v).of_same (SameWorld.of_fields rfl rfl rfl rfl rfl), by simp [State.storeB]⟩

theorem State.storeW_spec (s : State) (ea v : Word) :
    NoRegister s (s.storeW ea v) ∧ MoveFlags s (s.storeW ea v) v
      ∧ StoreWorld s (s.storeW ea v) (wordBytes ea v) ∧ (s.storeW ea v).pc = s.pc :=
  ⟨fun n => by simp [State.storeW],
    ((s.write16 ea v).moveFlags_logicN v).of_ccr (by simp) rfl,
    (s.storeWorld_write16 ea v).of_same (SameWorld.of_fields rfl rfl rfl rfl rfl), by simp [State.storeW]⟩

theorem State.storeL_spec (s : State) (ea : Word) (v : Long) :
    NoRegister s (s.storeL ea v) ∧ MoveFlags s (s.storeL ea v) v
      ∧ StoreWorld s (s.storeL ea v) (longBytes ea v) ∧ (s.storeL ea v).pc = s.pc :=
  ⟨fun n => by simp [State.storeL],
    ((s.write32 ea v).moveFlags_logicN v).of_ccr (by simp) rfl,
    (s.storeWorld_write32 ea v).of_same (SameWorld.of_fields rfl rfl rfl rfl rfl), by simp [State.storeL]⟩

theorem State.sameWorld_setReg (s : State) (n : Reg3) (v : Long) : SameWorld s (s.setReg n v) :=
  SameWorld.of_fields rfl rfl rfl rfl rfl

/-- Pre-decrement byte store: the register is decremented, and the store and its source follow. -/
theorem State.storePreB_spec (s : State) (rs : Reg4) (erd : Reg3) :
    OnlyLong s (s.storePreB rs erd) erd (s.reg erd - 1)
      ∧ MoveFlags s (s.storePreB rs erd) ((s.setReg erd (s.reg erd - 1)).r8 rs)
      ∧ StoreWorld s (s.storePreB rs erd)
          [((s.reg erd - 1).setWidth 16, (s.setReg erd (s.reg erd - 1)).r8 rs)]
      ∧ (s.storePreB rs erd).pc = s.pc := by
  have hb : s.bump erd (-1) = s.setReg erd (s.reg erd - 1) := by simp [State.bump, BitVec.sub_eq_add_neg]
  unfold State.storePreB
  simp only [hb, State.eaInd, State.reg_setReg_same]
  obtain ⟨a, b, c, d⟩ := (s.setReg erd (s.reg erd - 1)).storeB_spec ((s.reg erd - 1).setWidth 16)
    ((s.setReg erd (s.reg erd - 1)).r8 rs)
  exact ⟨(s.onlyLong_setReg erd (s.reg erd - 1)).of_er rfl (State.er_ext a), b.of_ccr rfl rfl,
    c.from_same (s.sameWorld_setReg _ _), d⟩

theorem State.storePreW_spec (s : State) (rs : Reg4) (erd : Reg3) :
    OnlyLong s (s.storePreW rs erd) erd (s.reg erd - 2)
      ∧ MoveFlags s (s.storePreW rs erd) ((s.setReg erd (s.reg erd - 2)).r16 rs)
      ∧ StoreWorld s (s.storePreW rs erd)
          (wordBytes ((s.reg erd - 2).setWidth 16) ((s.setReg erd (s.reg erd - 2)).r16 rs))
      ∧ (s.storePreW rs erd).pc = s.pc := by
  have hb : s.bump erd (-2) = s.setReg erd (s.reg erd - 2) := by simp [State.bump, BitVec.sub_eq_add_neg]
  unfold State.storePreW
  simp only [hb, State.eaInd, State.reg_setReg_same]
  obtain ⟨a, b, c, d⟩ := (s.setReg erd (s.reg erd - 2)).storeW_spec ((s.reg erd - 2).setWidth 16)
    ((s.setReg erd (s.reg erd - 2)).r16 rs)
  exact ⟨(s.onlyLong_setReg erd (s.reg erd - 2)).of_er rfl (State.er_ext a), b.of_ccr rfl rfl,
    c.from_same (s.sameWorld_setReg _ _), d⟩

theorem State.storePreL_spec (s : State) (ers erd : Reg3) :
    OnlyLong s (s.storePreL ers erd) erd (s.reg erd - 4)
      ∧ MoveFlags s (s.storePreL ers erd) ((s.setReg erd (s.reg erd - 4)).reg ers)
      ∧ StoreWorld s (s.storePreL ers erd)
          (longBytes ((s.reg erd - 4).setWidth 16) ((s.setReg erd (s.reg erd - 4)).reg ers))
      ∧ (s.storePreL ers erd).pc = s.pc := by
  have hb : s.bump erd (-4) = s.setReg erd (s.reg erd - 4) := by simp [State.bump, BitVec.sub_eq_add_neg]
  unfold State.storePreL
  simp only [hb, State.eaInd, State.reg_setReg_same]
  obtain ⟨a, b, c, d⟩ := (s.setReg erd (s.reg erd - 4)).storeL_spec ((s.reg erd - 4).setWidth 16)
    ((s.setReg erd (s.reg erd - 4)).reg ers)
  exact ⟨(s.onlyLong_setReg erd (s.reg erd - 4)).of_er rfl (State.er_ext a), b.of_ccr rfl rfl,
    c.from_same (s.sameWorld_setReg _ _), d⟩

/-! ## The stack -/

/-- A push: ER7 is two less, and the word is stored where it points (R260). -/
theorem State.push16_spec (s : State) (v : Word) :
    OnlyLong s (s.push16 v) 7 (s.reg 7 - 2) ∧ SameFlags s (s.push16 v)
      ∧ StoreWorld s (s.push16 v) (wordBytes ((s.reg 7 - 2).setWidth 16) v) ∧ (s.push16 v).pc = s.pc :=
  ⟨(s.onlyLong_setReg 7 (s.reg 7 - 2)).of_er rfl (by simp [State.push16]),
    by simp [State.push16, SameFlags],
    (State.storeWorld_write16 _ _ _).from_same (s.sameWorld_setReg _ _), by simp [State.push16]⟩

/-- A pop: the word ER7 points at, and ER7 is two more (R260). -/
theorem State.pop16_spec (s : State) :
    s.pop16.1 = wordAt s (s.eaInd 7) ∧ OnlyLong s s.pop16.2 7 (s.reg 7 + 2) ∧ SameFlags s s.pop16.2
      ∧ ReadWorld s s.pop16.2 (touchesW (s.eaInd 7)) ∧ s.pop16.2.pc = s.pc := by
  obtain ⟨e1, e2, e3, _⟩ := s.read16_cpu (s.eaInd 7)
  refine ⟨s.read16_value _, ?_, e3,
    (s.readWorld_read16 _).of_same (SameWorld.of_fields rfl rfl rfl rfl rfl), e2⟩
  exact (s.onlyLong_setReg 7 (s.reg 7 + 2)).of_er rfl (er_setReg_congr e1 7 2)

/-! ## Bit operands -/

/-- The byte written back (R241): one bit replaced, in a register. -/
theorem State.modifyBitR_spec (s : State) (rd : Reg4) (n : Nat) (f : Bool → Bool) :
    OnlyByte s (s.modifyBitR rd n f) rd (setBit (s.r8 rd) n (f ((s.r8 rd).getLsbD n)))
      ∧ SameFlags s (s.modifyBitR rd n f) ∧ SameWorld s (s.modifyBitR rd n f)
      ∧ (s.modifyBitR rd n f).pc = s.pc :=
  ⟨s.onlyByte_setR8 _ _, rfl, SameWorld.of_fields rfl rfl rfl rfl rfl, rfl⟩

/-- The same in memory: a read, then a write to the same address. -/
theorem State.modifyBit_spec (s : State) (ea : Word) (n : Nat) (f : Bool → Bool) :
    NoRegister s (s.modifyBit ea n f) ∧ SameFlags s (s.modifyBit ea n f)
      ∧ StoreWorld (s.read8 ea).2 (s.modifyBit ea n f)
          [(ea, setBit (s.read8 ea).1 n (f ((s.read8 ea).1.getLsbD n)))]
      ∧ (s.modifyBit ea n f).pc = s.pc := by
  obtain ⟨e1, e2, e3, _⟩ := s.read8_cpu ea
  exact ⟨fun m => by simp [State.modifyBit, State.reg, e1], by simp [State.modifyBit, SameFlags, e3],
    State.storeWorld_write8 _ _ _, by simp [State.modifyBit, e2]⟩

theorem State.testBit_spec (s : State) (b : Byte) (n : Nat) :
    NoRegister s (s.testBit b n)
      ∧ FlagsAre s (s.testBit b n) (s.flag .h) (s.flag .n) (!b.getLsbD n) (s.flag .v) (s.flag .c)
      ∧ SameWorld s (s.testBit b n) ∧ (s.testBit b n).pc = s.pc :=
  ⟨fun _ => rfl, s.flagsAre_setZ _, SameWorld.of_fields rfl rfl rfl rfl rfl, rfl⟩

theorem State.carryBit_spec (s : State) (b : Byte) (n : Nat) (f : Bool → Bool → Bool) :
    NoRegister s (s.carryBit b n f)
      ∧ FlagsAre s (s.carryBit b n f) (s.flag .h) (s.flag .n) (s.flag .z) (s.flag .v)
          (f (s.flag .c) (b.getLsbD n))
      ∧ SameWorld s (s.carryBit b n f) ∧ (s.carryBit b n f).pc = s.pc :=
  ⟨fun _ => rfl, s.flagsAre_setC _, SameWorld.of_fields rfl rfl rfl rfl rfl, rfl⟩

theorem State.testBitAt_spec (s : State) (ea : Word) (n : Nat) :
    NoRegister s (s.testBitAt ea n)
      ∧ FlagsAre s (s.testBitAt ea n) (s.flag .h) (s.flag .n) (!(s.read8 ea).1.getLsbD n) (s.flag .v)
          (s.flag .c)
      ∧ ReadWorld s (s.testBitAt ea n) (ea = 0xF0E9) ∧ (s.testBitAt ea n).pc = s.pc := by
  obtain ⟨e1, e2, e3, _⟩ := s.read8_cpu ea
  obtain ⟨a, b, c, d⟩ := (s.read8 ea).2.testBit_spec (s.read8 ea).1 n
  refine ⟨fun m => (a m).trans (State.reg_congr e1 m), ?_, (s.readWorld_read8 ea).of_same c, d.trans e2⟩
  simp only [State.flag_congr e3] at b
  exact b.of_ccr e3.symm rfl

theorem State.carryBitAt_spec (s : State) (ea : Word) (n : Nat) (f : Bool → Bool → Bool) :
    NoRegister s (s.carryBitAt ea n f)
      ∧ FlagsAre s (s.carryBitAt ea n f) (s.flag .h) (s.flag .n) (s.flag .z) (s.flag .v)
          (f (s.flag .c) ((s.read8 ea).1.getLsbD n))
      ∧ ReadWorld s (s.carryBitAt ea n f) (ea = 0xF0E9) ∧ (s.carryBitAt ea n f).pc = s.pc := by
  obtain ⟨e1, e2, e3, _⟩ := s.read8_cpu ea
  obtain ⟨a, b, c, d⟩ := (s.read8 ea).2.carryBit_spec (s.read8 ea).1 n f
  refine ⟨fun m => (a m).trans (State.reg_congr e1 m), ?_, (s.readWorld_read8 ea).of_same c, d.trans e2⟩
  simp only [State.flag_congr e3] at b
  exact b.of_ccr e3.symm rfl

end Sys2Proof.Machine
end

