-- ==== Sys2Proof/Laws/Arithmetic.lean ====
section
/-! SUPPORT. What the sums, differences, increments, products, quotients and decimal adjustments are: V as signed
overflow, and one lemma for each shared result operation (41_arithmetic.md). -/

namespace Sys2Proof.Machine

/-! ## V is signed overflow -/

/-- A value and its sign bit, at a width that is not 0. -/
theorem toInt_cases {w : Nat} (hw : 0 < w) (a : BitVec w) :
    (a.msb = true ∧ a.toInt = a.toNat - 2 * (2 ^ (w - 1) : Nat) ∧ 2 ^ (w - 1) ≤ a.toNat
      ∧ a.toNat < 2 * 2 ^ (w - 1)) ∨
    (a.msb = false ∧ a.toInt = a.toNat ∧ a.toNat < 2 ^ (w - 1)) := by
  have h2 : 2 ^ w = 2 * 2 ^ (w - 1) := by rw [← Nat.pow_succ']; congr; omega
  have hlt := a.isLt
  have hm := BitVec.msb_eq_decide a
  have ht := BitVec.toInt_eq_msb_cond a
  cases h : a.msb
  · right
    rw [h] at hm ht
    simp only [Bool.false_eq_true, if_false] at ht
    refine ⟨rfl, ht, ?_⟩
    have := of_decide_eq_false hm.symm
    omega
  · left
    rw [h] at hm ht
    simp only [if_true] at ht
    refine ⟨rfl, ?_, of_decide_eq_true hm.symm, by omega⟩
    rw [ht]; push_cast [h2]; rfl

theorem two_pow_width {w : Nat} (hw : 0 < w) : 2 ^ w = 2 * 2 ^ (w - 1) := by
  rw [← Nat.pow_succ']; congr; omega

/-- V of a sum (R9) says that the signed sum does not fit. -/
theorem addN_overflow {w : Nat} (hw : 0 < w) (a b : BitVec w) (cin : Bool) :
    (addN a b cin).2.v = decide (a.toInt + b.toInt + cin.toNat ≠ (addN a b cin).1.toInt) := by
  have hc : cin.toNat ≤ 1 := by cases cin <;> simp
  have h2 := two_pow_width hw
  have hr : (addN a b cin).1.toNat = (a.toNat + b.toNat + cin.toNat) % 2 ^ w := BitVec.toNat_ofNat ..
  have hv : (addN a b cin).2.v = (a.msb == b.msb && (addN a b cin).1.msb != a.msb) := rfl
  rw [hv]
  generalize (addN a b cin).1 = r at hr
  have hla := a.isLt
  have hlb := b.isLt
  have hs : (a.toNat + b.toNat + cin.toNat < 2 ^ w ∧ r.toNat = a.toNat + b.toNat + cin.toNat)
      ∨ (2 ^ w ≤ a.toNat + b.toNat + cin.toNat ∧ r.toNat = a.toNat + b.toNat + cin.toNat - 2 ^ w) := by
    rcases Nat.lt_or_ge (a.toNat + b.toNat + cin.toNat) (2 ^ w) with h | h
    · exact .inl ⟨h, by rw [hr, Nat.mod_eq_of_lt h]⟩
    · refine .inr ⟨h, ?_⟩
      rw [hr, Nat.mod_eq_sub_mod h, Nat.mod_eq_of_lt (by omega)]
  rw [h2] at hs
  have ha := toInt_cases hw a
  have hb := toInt_cases hw b
  have hr' := toInt_cases hw r
  generalize cin.toNat = c at *
  generalize 2 ^ (w - 1) = P at *
  rcases ha with ⟨ma, ia, la, ua⟩ | ⟨ma, ia, la⟩ <;>
  rcases hb with ⟨mb, ib, lb, ub⟩ | ⟨mb, ib, lb⟩ <;>
  rcases hr' with ⟨mr, ir, lr, ur⟩ | ⟨mr, ir, lr⟩ <;>
  simp only [ma, mb, mr, ia, ib, ir] <;> simp <;> omega

/-- V of a difference (R9) says that the signed difference does not fit. -/
theorem subN_overflow {w : Nat} (hw : 0 < w) (a b : BitVec w) (bin : Bool) :
    (subN a b bin).2.v = decide (a.toInt - b.toInt - bin.toNat ≠ (subN a b bin).1.toInt) := by
  have hc : bin.toNat ≤ 1 := by cases bin <;> simp
  have h2 := two_pow_width hw
  have hr : (subN a b bin).1 = BitVec.ofInt w ((a.toNat : Int) - b.toNat - bin.toNat) := rfl
  have hv : (subN a b bin).2.v = (a.msb != b.msb && (subN a b bin).1.msb != a.msb) := rfl
  rw [hv]
  have hla := a.isLt
  have hlb := b.isLt
  have hn : (subN a b bin).1.toNat = (((a.toNat : Int) - b.toNat - bin.toNat) % (2 ^ w : Nat)).toNat := by
    rw [hr, BitVec.toNat_ofInt]
  generalize (subN a b bin).1 = r at hn
  have hs : (b.toNat + bin.toNat ≤ a.toNat ∧ r.toNat = a.toNat - b.toNat - bin.toNat)
      ∨ (a.toNat < b.toNat + bin.toNat ∧ r.toNat = a.toNat + 2 ^ w - b.toNat - bin.toNat) := by
    rcases Nat.lt_or_ge a.toNat (b.toNat + bin.toNat) with h | h
    · refine .inr ⟨h, ?_⟩
      rw [hn, ← Int.add_emod_right, Int.emod_eq_of_lt (by omega) (by omega)]
      omega
    · refine .inl ⟨h, ?_⟩
      rw [hn, Int.emod_eq_of_lt (by omega) (by omega)]
      omega
  rw [h2] at hs
  have ha := toInt_cases hw a
  have hb := toInt_cases hw b
  have hr' := toInt_cases hw r
  generalize bin.toNat = c at *
  generalize 2 ^ (w - 1) = P at *
  rcases ha with ⟨ma, ia, la, ua⟩ | ⟨ma, ia, la⟩ <;>
  rcases hb with ⟨mb, ib, lb, ub⟩ | ⟨mb, ib, lb⟩ <;>
  rcases hr' with ⟨mr, ir, lr, ur⟩ | ⟨mr, ir, lr⟩ <;>
  simp only [ma, mb, mr, ia, ib, ir] <;> simp <;> omega

/-- The flags written by a sum. -/
theorem SumFlags.of_addN {w : Nat} (hw : 0 < w) {s t : State} (a b : BitVec w) (cin z : Bool)
    (h : FlagsAre s t (addN a b cin).2.h (addN a b cin).2.n z (addN a b cin).2.v (addN a b cin).2.c) :
    SumFlags s t a b cin z := by
  rw [addN_overflow hw] at h; exact h

/-- The flags written by a difference. -/
theorem DifferenceFlags.of_subN {w : Nat} (hw : 0 < w) {s t : State} (a b : BitVec w) (bin z : Bool)
    (h : FlagsAre s t (subN a b bin).2.h (subN a b bin).2.n z (subN a b bin).2.v (subN a b bin).2.c) :
    DifferenceFlags s t a b bin z := by
  rw [subN_overflow hw] at h; exact h

/-- The sum is the machine sum with the carry. -/
theorem addN_value {w : Nat} (a b : BitVec w) (cin : Bool) :
    (addN a b cin).1 = a + b + BitVec.ofNat w cin.toNat := by
  rw [addN_fst]; simp [BitVec.ofNat_add]

/-- The difference is the machine difference with the borrow. -/
theorem subN_value {w : Nat} (a b : BitVec w) (bin : Bool) :
    (subN a b bin).1 = a - b - BitVec.ofNat w bin.toNat := by
  rw [subN_fst, Int.sub_eq_add_neg, Int.sub_eq_add_neg, BitVec.ofInt_add, BitVec.ofInt_add, BitVec.ofInt_neg,
    BitVec.ofInt_neg, BitVec.ofInt_natCast, BitVec.ofInt_natCast, BitVec.ofInt_natCast]
  simp [BitVec.sub_eq_add_neg]

/-! ## Compares -/

theorem State.setArith_spec (s : State) (f : ArithFlags) :
    NoRegister s (s.setArith f) ∧ FlagsAre s (s.setArith f) f.h f.n f.z f.v f.c ∧ SameWorld s (s.setArith f)
      ∧ (s.setArith f).pc = s.pc :=
  ⟨fun _ => rfl, s.flagsAre_setArith f, SameWorld.of_fields rfl rfl rfl rfl rfl, rfl⟩

/-- ADDS, SUBS: one long register, no flag. -/
theorem State.setReg_spec (s : State) (n : Reg3) (v : Long) :
    OnlyLong s (s.setReg n v) n v ∧ SameFlags s (s.setReg n v) ∧ SameWorld s (s.setReg n v)
      ∧ (s.setReg n v).pc = s.pc :=
  ⟨s.onlyLong_setReg n v, rfl, s.sameWorld_setReg n v, rfl⟩

/-- MULXU.B, and any word result that writes no flag. -/
theorem State.setR16_spec (s : State) (r : Reg4) (v : Word) :
    OnlyWord s (s.setR16 r v) r v ∧ SameFlags s (s.setR16 r v) ∧ SameWorld s (s.setR16 r v)
      ∧ (s.setR16 r v).pc = s.pc :=
  ⟨s.onlyWord_setR16 r v, rfl, SameWorld.of_fields rfl rfl rfl rfl rfl, rfl⟩

/-- STC to a register. -/
theorem State.setR8_spec (s : State) (r : Reg4) (v : Byte) :
    OnlyByte s (s.setR8 r v) r v ∧ SameFlags s (s.setR8 r v) ∧ SameWorld s (s.setR8 r v)
      ∧ (s.setR8 r v).pc = s.pc :=
  ⟨s.onlyByte_setR8 r v, rfl, SameWorld.of_fields rfl rfl rfl rfl rfl, rfl⟩

/-! ## Products -/

theorem State.mulResultW_spec (s : State) (rd : Reg4) (p : Word) :
    OnlyWord s (s.mulResultW rd p) rd p
      ∧ FlagsAre s (s.mulResultW rd p) (s.flag .h) p.msb (decide (p = 0)) (s.flag .v) (s.flag .c)
      ∧ SameWorld s (s.mulResultW rd p) ∧ (s.mulResultW rd p).pc = s.pc :=
  ⟨(s.onlyWord_setR16 rd p).of_er rfl rfl, ((s.setR16 rd p).flagsAre_setNZ _ _).of_ccr rfl rfl,
    SameWorld.of_fields rfl rfl rfl rfl rfl, rfl⟩

theorem State.mulResultL_spec (s : State) (n : Reg3) (p : Long) :
    OnlyLong s (s.mulResultL n p) n p
      ∧ FlagsAre s (s.mulResultL n p) (s.flag .h) p.msb (decide (p = 0)) (s.flag .v) (s.flag .c)
      ∧ SameWorld s (s.mulResultL n p) ∧ (s.mulResultL n p).pc = s.pc :=
  ⟨(s.onlyLong_setReg n p).of_er rfl rfl, ((s.setReg n p).flagsAre_setNZ _ _).of_ccr rfl rfl,
    SameWorld.of_fields rfl rfl rfl rfl rfl, rfl⟩

/-- An unsigned product fits twice the width (R187). -/
theorem mulUnsigned_toNat {w : Nat} (a b : BitVec w) : (mulUnsigned a b).toNat = a.toNat * b.toNat := by
  have : a.toNat * b.toNat < 2 ^ (w + w) := by
    rw [Nat.pow_add]; exact Nat.mul_lt_mul'' a.isLt b.isLt
  simp [mulUnsigned, Nat.mod_eq_of_lt this]

/-- A signed product fits twice the width (R194). -/
theorem mulSigned_toInt {w : Nat} (hw : 0 < w) (a b : BitVec w) :
    (mulSigned a b).toInt = a.toInt * b.toInt := by
  have key : (-(2 ^ (w - 1) : Nat) : Int) ≤ a.toInt ∧ a.toInt < (2 ^ (w - 1) : Nat)
      ∧ (-(2 ^ (w - 1) : Nat) : Int) ≤ b.toInt ∧ b.toInt < (2 ^ (w - 1) : Nat) := by
    rcases toInt_cases hw a with ⟨_, ia, la, ua⟩ | ⟨_, ia, la⟩ <;>
    rcases toInt_cases hw b with ⟨_, ib, lb, ub⟩ | ⟨_, ib, lb⟩ <;> omega
  have hp : (2 ^ (w + w - 1) : Nat) = 2 * (2 ^ (w - 1) * 2 ^ (w - 1)) := by
    rw [← Nat.pow_add, ← Nat.pow_succ']; congr 1; omega
  have hpos : 0 < 2 ^ (w - 1) := Nat.two_pow_pos _
  have habs : (a.toInt * b.toInt).natAbs ≤ 2 ^ (w - 1) * 2 ^ (w - 1) := by
    rw [Int.natAbs_mul]
    exact Nat.mul_le_mul (by omega) (by omega)
  have hpp : 0 < 2 ^ (w - 1) * 2 ^ (w - 1) := Nat.mul_pos hpos hpos
  unfold mulSigned
  rw [BitVec.toInt_ofInt]
  apply Int.bmod_eq_of_le
  · have h2 := two_pow_width (show 0 < w + w by omega)
    omega
  · have h2 := two_pow_width (show 0 < w + w by omega)
    omega

/-! ## Zero extension -/

theorem State.extendUW_spec (s : State) (rd : Reg4) (r : Word) :
    OnlyWord s (s.extendUW rd r) rd r
      ∧ FlagsAre s (s.extendUW rd r) (s.flag .h) false (decide (r = 0)) false (s.flag .c)
      ∧ SameWorld s (s.extendUW rd r) ∧ (s.extendUW rd r).pc = s.pc :=
  ⟨(s.onlyWord_setR16 rd r).of_er rfl rfl, ((s.setR16 rd r).flagsAre_extendFlags r).of_ccr rfl rfl,
    SameWorld.of_fields rfl rfl rfl rfl rfl, rfl⟩

theorem State.extendUL_spec (s : State) (n : Reg3) (r : Long) :
    OnlyLong s (s.extendUL n r) n r
      ∧ FlagsAre s (s.extendUL n r) (s.flag .h) false (decide (r = 0)) false (s.flag .c)
      ∧ SameWorld s (s.extendUL n r) ∧ (s.extendUL n r).pc = s.pc :=
  ⟨(s.onlyLong_setReg n r).of_er rfl rfl, ((s.setReg n r).flagsAre_extendFlags r).of_ccr rfl rfl,
    SameWorld.of_fields rfl rfl rfl rfl rfl, rfl⟩

/-! ## Quotients -/

/-- Every function on finitely many inputs can be passed as a table (R6). -/
theorem exists_table {κ ν : Type} [DecidableEq κ] (keys : List κ) (h : ∀ k, k ∈ keys) (f : κ → ν) :
    ∃ table : List (κ × ν), ∀ k, table.lookup k = some (f k) := by
  refine ⟨keys.map fun k => (k, f k), fun k => ?_⟩
  have hk := h k
  clear h
  induction keys with
  | nil => cases hk
  | cons j keys ih =>
    rw [List.map_cons, List.lookup_cons]
    by_cases e : k = j
    · simp [e]
    · rw [beq_false_of_ne e]; exact ih ((List.mem_cons.1 hk).resolve_left e)

/-- How a parameter settles a result: by its default, by the value passed, or not at all. -/
theorem settle_spec {κ ν β : Type} [DecidableEq κ] (o : OpenResult κ ν) (k : κ) (conv : ν → β) (dflt : β) :
    (DefaultAt o k → o.settle k conv dflt = some dflt)
      ∧ (∀ v, GivenAt o k v → o.settle k conv dflt = some (conv v))
      ∧ (o = .anyValue → o.settle k conv dflt = none)
      ∧ (o ≠ .anyValue → ∃ v, o.settle k conv dflt = some v) := by
  refine ⟨?_, ?_, ?_, ?_⟩
  · rintro (rfl | ⟨t, rfl, h⟩)
    · rfl
    · simp [OpenResult.settle, h]
  · rintro v ⟨t, rfl, h⟩
    simp [OpenResult.settle, h]
  · rintro rfl; rfl
  · intro h
    cases o with
    | specDefault => exact ⟨_, rfl⟩
    | given t => simp only [OpenResult.settle]; cases t.lookup k <;> exact ⟨_, rfl⟩
    | anyValue => exact absurd rfl h

/-- What every divide keeps, and its value and flags where nothing is open: by default the value is the destination
before on a zero divisor and `d.value` otherwise; a corner for which a value is passed has that value (R189). -/
theorem State.divided_spec {w : Nat} (s : State) (d : DivideResult w) (old : BitVec (w + w)) :
    (s.divided d old).2.er = s.er
      ∧ FlagsAre s (s.divided d old).2 (s.flag .h) ((s.divided d old).2.flag .n) ((s.divided d old).2.flag .z)
          (s.flag .v) (s.flag .c)
      ∧ SameWorld s (s.divided d old).2 ∧ (s.divided d old).2.pc = s.pc
      ∧ (d.cls ≠ .overflow ∨ s.params.divCorner ≠ .anyValue →
          (s.divided d old).2.flag .n = d.n ∧ (s.divided d old).2.flag .z = d.z)
      ∧ (d.cls = .zeroDivisor → DefaultAt s.params.divCorner d.input → (s.divided d old).1 = old)
      ∧ (d.cls ≠ .fits → ∀ v, GivenAt s.params.divCorner d.input v → (s.divided d old).1 = v.setWidth _)
      ∧ (d.cls = .fits ∨ d.cls = .overflow ∧ DefaultAt s.params.divCorner d.input →
          (s.divided d old).1 = d.value) := by
  have hf : ∀ (t : State) (n z : Bool), t.ccr = s.ccr →
      FlagsAre s (t.setNZ n z) (s.flag .h) ((t.setNZ n z).flag .n) ((t.setNZ n z).flag .z)
        (s.flag .v) (s.flag .c) := by
    intro t n z h
    have := (s.flagsAre_setNZ n z)
    constructor <;> simp [State.setNZ, State.flag_congr h]
  obtain ⟨z1, z2, z3, z4⟩ := settle_spec s.params.divCorner d.input (fun v => v.setWidth (w + w)) old
  obtain ⟨o1, o2, o3, o4⟩ := settle_spec s.params.divCorner d.input (fun v => v.setWidth (w + w)) d.value
  have hs : SameWorld s (s.setNZ d.n d.z) := SameWorld.of_fields rfl rfl rfl rfl rfl
  unfold State.divided
  cases hc : d.cls with
  | fits =>
    refine ⟨rfl, hf _ _ _ rfl, hs, rfl, fun _ => ?_, nofun, fun h => absurd rfl h, fun _ => rfl⟩
    simp [State.setNZ]
  | zeroDivisor =>
    cases hv : s.params.divCorner.settle d.input (fun v => v.setWidth (w + w)) old with
    | some x =>
      refine ⟨rfl, hf _ _ _ rfl, hs, rfl, fun _ => ?_, fun _ h => ?_, fun _ v h => ?_, nofun⟩
      · simp [State.setNZ]
      · exact Option.some.inj (hv.symm.trans (z1 h))
      · exact Option.some.inj (hv.symm.trans (z2 v h))
    | none =>
      refine ⟨rfl, hf _ _ _ rfl, SameWorld.of_fields rfl rfl rfl rfl rfl, rfl, fun _ => ?_, fun _ h => ?_,
        fun _ v h => ?_, nofun⟩
      · simp [State.setNZ]
      · cases hv.symm.trans (z1 h)
      · cases hv.symm.trans (z2 v h)
  | overflow =>
    cases hv : s.params.divCorner.settle d.input (fun v => v.setWidth (w + w)) d.value with
    | some x =>
      refine ⟨rfl, hf _ _ _ rfl, hs, rfl, fun _ => ?_, nofun, fun _ v h => ?_, fun h => ?_⟩
      · simp [State.setNZ]
      · exact Option.some.inj (hv.symm.trans (o2 v h))
      · exact Option.some.inj (hv.symm.trans (o1 (h.resolve_left nofun).2))
    | none =>
      refine ⟨rfl, hf _ _ _ rfl, SameWorld.of_fields rfl rfl rfl rfl rfl, rfl, fun h => ?_, nofun,
        fun _ v h => ?_, fun h => ?_⟩
      · obtain ⟨v, e⟩ := o4 (h.resolve_left fun k => k rfl)
        cases hv.symm.trans e
      · cases hv.symm.trans (o2 v h)
      · cases hv.symm.trans (o1 (h.resolve_left nofun).2)

/-- A divide with a word destination. -/
theorem State.divideW_spec (s : State) (rd : Reg4) (d : DivideResult 8) :
    OnlyWord s (s.divideW rd d) rd ((s.divideW rd d).r16 rd) ∧ SameWorld s (s.divideW rd d)
      ∧ (s.divideW rd d).pc = s.pc
      ∧ FlagsAre s (s.divideW rd d) (s.flag .h) ((s.divideW rd d).flag .n) ((s.divideW rd d).flag .z)
          (s.flag .v) (s.flag .c)
      ∧ (d.cls ≠ .overflow ∨ s.params.divCorner ≠ .anyValue →
          (s.divideW rd d).flag .n = d.n ∧ (s.divideW rd d).flag .z = d.z)
      ∧ (d.cls = .zeroDivisor → DefaultAt s.params.divCorner d.input → (s.divideW rd d).r16 rd = s.r16 rd)
      ∧ (d.cls ≠ .fits → ∀ v, GivenAt s.params.divCorner d.input v → (s.divideW rd d).r16 rd = v.setWidth _)
      ∧ (d.cls = .fits ∨ d.cls = .overflow ∧ DefaultAt s.params.divCorner d.input →
          (s.divideW rd d).r16 rd = d.value) := by
  obtain ⟨he, hf, hw, hp, h1, h2, h3, h4⟩ := s.divided_spec d (s.r16 rd)
  have hv : (s.divideW rd d).r16 rd = (s.divided d (s.r16 rd)).1 := by
    simp [State.divideW, State.r16_setR16]
  refine ⟨?_, ?_, hp, ?_, ?_, ?_, ?_, ?_⟩
  · rw [hv]; exact ((s.divided d (s.r16 rd)).2.onlyWord_setR16 rd _).of_er he.symm rfl
  · exact hw.trans (SameWorld.of_fields rfl rfl rfl rfl rfl)
  · exact hf.of_ccr rfl rfl
  · exact h1
  · intro a b; rw [hv]; exact h2 a b
  · intro a v b; rw [hv]; exact h3 a v b
  · intro a; rw [hv]; exact h4 a

/-- A divide with a long destination. -/
theorem State.divideL_spec (s : State) (n : Reg3) (d : DivideResult 16) :
    OnlyLong s (s.divideL n d) n ((s.divideL n d).reg n) ∧ SameWorld s (s.divideL n d)
      ∧ (s.divideL n d).pc = s.pc
      ∧ FlagsAre s (s.divideL n d) (s.flag .h) ((s.divideL n d).flag .n) ((s.divideL n d).flag .z)
          (s.flag .v) (s.flag .c)
      ∧ (d.cls ≠ .overflow ∨ s.params.divCorner ≠ .anyValue →
          (s.divideL n d).flag .n = d.n ∧ (s.divideL n d).flag .z = d.z)
      ∧ (d.cls = .zeroDivisor → DefaultAt s.params.divCorner d.input → (s.divideL n d).reg n = s.reg n)
      ∧ (d.cls ≠ .fits → ∀ v, GivenAt s.params.divCorner d.input v → (s.divideL n d).reg n = v.setWidth _)
      ∧ (d.cls = .fits ∨ d.cls = .overflow ∧ DefaultAt s.params.divCorner d.input →
          (s.divideL n d).reg n = d.value) := by
  obtain ⟨he, hf, hw, hp, h1, h2, h3, h4⟩ := s.divided_spec d (s.reg n)
  have hv : (s.divideL n d).reg n = (s.divided d (s.reg n)).1 := by simp [State.divideL]
  refine ⟨?_, ?_, hp, ?_, ?_, ?_, ?_, ?_⟩
  · rw [hv]; exact ((s.divided d (s.reg n)).2.onlyLong_setReg n _).of_er he.symm rfl
  · exact hw.trans (SameWorld.of_fields rfl rfl rfl rfl rfl)
  · exact hf.of_ccr rfl rfl
  · exact h1
  · intro a b; rw [hv]; exact h2 a b
  · intro a v b; rw [hv]; exact h3 a v b
  · intro a; rw [hv]; exact h4 a

/-! ## Decimal adjustment -/

/-- The adjusted byte, its flags, and nothing else (R185, R186). -/
theorem State.adjusted_spec (s : State) (rd : Reg4) (r : Byte) (c : Bool) :
    OnlyByte s (s.adjusted rd r c) rd r
      ∧ FlagsAre s (s.adjusted rd r c) (s.flag .h) r.msb (decide (r = 0)) (s.flag .v) c
      ∧ SameWorld s (s.adjusted rd r c) ∧ (s.adjusted rd r c).pc = s.pc := by
  refine ⟨(s.onlyByte_setR8 rd r).of_er rfl rfl, ?_, SameWorld.of_fields rfl rfl rfl rfl rfl, rfl⟩
  have e : ∀ f, (s.setR8 rd r).flag f = s.flag f := fun _ => rfl
  constructor <;> simp [State.adjusted, State.setNZOf, State.setNZ, e]

/-- The defaults agree with every row of the tables (R185, R186). -/
theorem default_follows_table (k : AdjustInput) :
    (∀ x, tableAdjust daaTable k = some x → daaDefault k = x)
      ∧ ∀ x, tableAdjust dasTable k = some x → dasDefault k = x := by
  obtain ⟨c, h, a⟩ := k
  have h1 : ∀ a : Byte, ∀ c h, (tableAdjust daaTable ⟨c, h, a⟩).all (· = daaDefault ⟨c, h, a⟩) = true := by decide
  have h2 : ∀ a : Byte, ∀ c h, (tableAdjust dasTable ⟨c, h, a⟩).all (· = dasDefault ⟨c, h, a⟩) = true := by decide
  refine ⟨fun x e => ?_, fun x e => ?_⟩
  · have := h1 a c h; rw [e] at this; simpa using (Eq.symm (by simpa using this))
  · have := h2 a c h; rw [e] at this; simpa using (Eq.symm (by simpa using this))

/-- DAA and DAS, `rule` being the parameter: one byte register, N and Z from it; H and V kept unless they are open; the
default and a value passed are followed; and under `anyValue` what the table lists. -/
theorem State.decimalAdjust_spec (s : State) (rd : Reg4) (rule : OpenResult AdjustInput Adjustment)
    (dflt : AdjustInput → Adjustment) (table : List AdjustRow) (t : State)
    (ht : s.decimalAdjust rd rule dflt table = t) :
    OnlyByte s t rd (t.r8 rd)
      ∧ FlagsAre s t (t.flag .h) (t.r8 rd).msb (decide (t.r8 rd = 0)) (t.flag .v) (t.flag .c)
      ∧ SameWorld s t ∧ t.pc = s.pc
      ∧ (rule ≠ .anyValue → t.flag .h = s.flag .h ∧ t.flag .v = s.flag .v)
      ∧ (∀ x, DefaultAt rule (s.adjustInput rd) ∧ x = dflt (s.adjustInput rd) ∨ GivenAt rule (s.adjustInput rd) x →
          t.r8 rd = s.r8 rd + x.addend ∧ t.flag .c = x.cAfter)
      ∧ (rule = .anyValue → ∀ x, tableAdjust table (s.adjustInput rd) = some x →
          t.r8 rd = s.r8 rd + x.addend ∧ t.flag .c = x.cAfter) := by
  obtain ⟨h1, h2, h3, h4⟩ := settle_spec rule (s.adjustInput rd) id (dflt (s.adjustInput rd))
  unfold State.decimalAdjust at ht
  simp only at ht
  cases hv : rule.settle (s.adjustInput rd) id (dflt (s.adjustInput rd)) with
  | some y =>
    rw [hv] at ht
    obtain ⟨a, b, c, d⟩ := s.adjusted_spec rd (s.r8 rd + y.addend) y.cAfter
    change s.adjusted rd (s.r8 rd + y.addend) y.cAfter = t at ht
    rw [ht] at a b c d
    refine ⟨?_, ?_, c, d, fun _ => ⟨b.h, b.v⟩, fun x hx => ?_, fun h => ?_⟩
    · rw [a.1]; exact a
    · rw [a.1, b.h, b.v, b.c]; exact b
    · have : y = x := by
        rcases hx with ⟨hd, rfl⟩ | hg
        · exact Option.some.inj (hv.symm.trans (h1 hd))
        · exact Option.some.inj (hv.symm.trans (h2 x hg))
      rw [← this]; exact ⟨a.1, b.c⟩
    · cases hv.symm.trans (h3 h)
  | none =>
    rw [hv] at ht
    obtain ⟨q, hq⟩ : ∃ q, openAdjust table (s.adjustInput rd) s.takeFree.1 = q := ⟨_, rfl⟩
    simp only [hq] at ht
    obtain ⟨a, b, c, d⟩ := s.takeFree.2.adjusted_spec rd q.1 q.2
    obtain ⟨r, hr⟩ : ∃ r, s.takeFree.2.adjusted rd q.1 q.2 = r := ⟨_, rfl⟩
    rw [hr] at ht a b c d
    have hb : t.r8 rd = q.1 := by rw [← ht]; exact (State.r8_congr rfl rd).trans a.1
    refine ⟨?_, ?_, ?_, ?_, fun h => ?_, fun x hx => ?_, fun _ x h => ?_⟩
    · rw [hb]; exact a.of_er rfl (by rw [← ht]; rfl)
    · rw [hb]
      have e : ∀ f, s.takeFree.2.flag f = s.flag f := fun _ => rfl
      constructor <;> simp [← ht, b.n, b.z, b.i, b.ui, b.u, e]
    · exact (SameWorld.of_fields rfl rfl rfl rfl rfl : SameWorld s s.takeFree.2).trans
        (c.trans (by rw [← ht]; exact SameWorld.of_fields rfl rfl rfl rfl rfl))
    · rw [← ht]; exact d
    · obtain ⟨v, e⟩ := h4 h
      cases hv.symm.trans e
    · rcases hx with ⟨hd, rfl⟩ | hg
      · cases hv.symm.trans (h1 hd)
      · cases hv.symm.trans (h2 x hg)
    · rw [openAdjust, h] at hq
      rw [hb]
      simp [← ht, b.c, ← hq, State.adjustInput]

end Sys2Proof.Machine
end

