-- ==== Sys2Proof/Laws/ControlTransfer.lean ====
section
/-! SUPPORT. What the control-transfer and CCR-memory operations do: writes of PC, calls, returns, LDC and STC with memory
(44_control_transfer.md, 45_system.md). -/

namespace Sys2Proof.Machine

/-- The two ways to say that a value is reduced modulo 2^24. -/
theorem mod24_eq_wrap24 (x : Long) : mod24 x = wrap24 x := by
  apply BitVec.eq_of_toNat_eq
  unfold mod24 wrap24
  rw [BitVec.toNat_setWidth, BitVec.toNat_setWidth, BitVec.toNat_ofNat]

/-- A reduced value is reduced again to itself. -/
theorem wrap24_add (x y : Long) : wrap24 (wrap24 x + y) = wrap24 (x + y) := by
  apply BitVec.eq_of_toNat_eq
  unfold wrap24
  simp only [BitVec.toNat_ofNat, BitVec.toNat_add]
  omega

/-- A word is already reduced. -/
theorem wrap24_word (w : Word) : wrap24 (w.setWidth 32) = w.setWidth 32 := by
  apply BitVec.eq_of_toNat_eq
  unfold wrap24
  have := w.isLt
  simp only [BitVec.toNat_ofNat, BitVec.toNat_setWidth]
  omega

theorem State.setPc_eq (s : State) (x : Long) : s.setPc x = { s with pc := wrap24 x } := by
  rw [State.setPc, mod24_eq_wrap24]

/-- Writing PC keeps the rest. -/
theorem State.setPc_world (s : State) (x : Long) : SameWorld s (s.setPc x) :=
  SameWorld.of_fields rfl rfl rfl rfl rfl

/-- The low words seen two ways. -/
theorem setWidth16_eq (x : Long) : x.setWidth 16 = x.extractLsb' 0 16 := by
  apply BitVec.eq_of_toNat_eq; simp

/-- JSR and BSR (R264, R266). -/
theorem State.call_spec (s : State) (target : Long) :
    (s.call target).pc = wrap24 target ∧ OnlyLong s (s.call target) 7 (s.reg 7 - 2) ∧ SameFlags s (s.call target)
      ∧ StoreWorld s (s.call target) (wordBytes ((s.reg 7 - 2).extractLsb' 0 16) (s.pc.extractLsb' 0 16)) := by
  obtain ⟨a, b, c, _⟩ := s.push16_spec s.pc16
  refine ⟨mod24_eq_wrap24 _, a.of_er rfl rfl, b, ?_⟩
  rw [← setWidth16_eq, ← setWidth16_eq]
  exact c.of_same (State.setPc_world _ _)

/-- A read in the ROM image has no side effect. -/
theorem State.read16_rom (s : State) (aa : Byte) : (s.read16 (eaVector aa)).2 = s := by
  apply State.read16_quiet
  revert aa; unfold touchesW eaVector evenAddr; decide

/-- RTS (R267). -/
theorem State.pop16_setPc_spec (s : State) :
    (s.pop16.2.setPc (s.pop16.1.setWidth 32)).pc = (wordAt s (s.eaInd 7)).setWidth 32
      ∧ OnlyLong s (s.pop16.2.setPc (s.pop16.1.setWidth 32)) 7 (s.reg 7 + 2)
      ∧ SameFlags s (s.pop16.2.setPc (s.pop16.1.setWidth 32))
      ∧ ReadWorld s (s.pop16.2.setPc (s.pop16.1.setWidth 32)) (touchesW (s.eaInd 7)) := by
  obtain ⟨v, a, b, c, _⟩ := s.pop16_spec
  refine ⟨?_, a.of_er rfl rfl, b, c.of_same (State.setPc_world _ _)⟩
  rw [v]; exact (mod24_eq_wrap24 _).trans (wrap24_word _)

/-- RTE (R268). -/
theorem State.returnFromException_spec (s : State) :
    s.returnFromException.ccr = (wordAt s (s.eaInd 7)).extractLsb' 0 8
      ∧ s.returnFromException.pc = (wordAt s (s.eaInd 7 + 2)).setWidth 32
      ∧ OnlyLong s s.returnFromException 7 (s.reg 7 + 4)
      ∧ ReadWorld s s.returnFromException (touchesL (s.eaInd 7)) := by
  obtain ⟨v, a, b, c, d⟩ := s.pop16_spec
  obtain ⟨w, e, f, g, h⟩ := State.pop16_spec { s.pop16.2 with ccr := s.pop16.1.extractLsb' 0 8 }
  have hr : ∀ n, ({ s.pop16.2 with ccr := s.pop16.1.extractLsb' 0 8 } : State).reg n = s.pop16.2.reg n := fun _ => rfl
  have hea : ({ s.pop16.2 with ccr := s.pop16.1.extractLsb' 0 8 } : State).eaInd 7 = s.eaInd 7 + 2 := by
    unfold State.eaInd; rw [hr, a.1]
    apply BitVec.eq_of_toNat_eq; simp [BitVec.toNat_add]
  have hw : wordAt { s.pop16.2 with ccr := s.pop16.1.extractLsb' 0 8 } (s.eaInd 7 + 2) = wordAt s (s.eaInd 7 + 2) := by
    have hc : ReadWorld s { s.pop16.2 with ccr := s.pop16.1.extractLsb' 0 8 } (touchesW (s.eaInd 7)) :=
      c.of_same (SameWorld.of_fields rfl rfl rfl rfl rfl)
    exact hc.wordAt fun t => next_ne_sssr t
  rw [hea] at w g
  refine ⟨?_, ?_, ?_, ?_⟩
  · show (State.pop16 _).2.ccr = _
    rw [show (State.pop16 { s.pop16.2 with ccr := s.pop16.1.extractLsb' 0 8 }).2.ccr = s.pop16.1.extractLsb' 0 8
      from f, v]
  · show mod24 ((State.pop16 _).1.setWidth 32) = _
    rw [w, hw, mod24_eq_wrap24, wrap24_word]
  · refine ⟨?_, fun m hm => ?_⟩
    · show (State.pop16 _).2.reg 7 = _
      rw [e.1, hr, a.1]; simp [BitVec.add_assoc]
    · show (State.pop16 _).2.reg m = _
      rw [e.2 m hm, hr, a.2 m hm]
  · have hc : ReadWorld s { s.pop16.2 with ccr := s.pop16.1.extractLsb' 0 8 } (touchesW (s.eaInd 7)) :=
      c.of_same (SameWorld.of_fields rfl rfl rfl rfl rfl)
    exact (hc.trans g).of_same (State.setPc_world _ _)

end Sys2Proof.Machine
end

