-- ==== Sys2Proof/Laws/Decode.lean ====
section
/-! SUPPORT. How the decoder reads (30_encoding.md rules R102, R113): what it makes of some words it makes of them
whatever follows, and it takes no word more than it needs. -/

namespace Sys2Proof

/-- `f`, having used `k` words already, answers the same when words follow, and answers `n` words only if it
has read all of them and could not have answered on fewer. -/
structure Reads (k : Nat) (f : Reader) : Prop where
  more : ∀ ws xs, f ws ≠ .needMore → f (ws ++ xs) = f ws
  used : ∀ ws i n, f ws = .instr i n → k ≤ n ∧ n ≤ k + ws.length
  needs : ∀ ws xs i n, f (ws ++ xs) = .instr i n → k + ws.length < n → f ws = .needMore

theorem Reads.done (i : Instr) (k : Nat) : Reads k (done i k) where
  more _ _ _ := rfl
  used _ _ _ h := by cases h; omega
  needs _ _ _ _ h := by cases h; intro h; omega

theorem Reads.undef (k : Nat) : Reads k undef where
  more _ _ _ := rfl
  used _ _ _ h := by cases h
  needs _ _ _ _ h := by cases h

theorem Reads.nextWord {k : Nat} {g : Word → Reader} (h : ∀ w, Reads (k + 1) (g w)) :
    Reads k (nextWord g) where
  more ws xs hne := by
    cases ws with
    | nil => exact absurd rfl hne
    | cons w ws => exact (h w).more ws xs hne
  used ws i n hi := by
    cases ws with
    | nil => cases hi
    | cons w ws =>
      have := (h w).used ws i n hi
      simp only [List.length_cons]; omega
  needs ws xs i n hi hn := by
    cases ws with
    | nil => rfl
    | cons w ws =>
      refine (h w).needs ws xs i n hi ?_
      simp only [List.length_cons] at hn; omega

theorem Reads.ite {k : Nat} {c : Prop} [Decidable c] {f g : Reader} (hf : Reads k f) (hg : Reads k g) :
    Reads k (if c then f else g) := by
  split <;> assumption

theorem Reads.longReg {k : Nat} (n : Nibble) {g : Reg3 → Reader} (h : ∀ r, Reads k (g r)) :
    Reads k (longReg n g) := Reads.ite (Reads.undef k) (h _)

theorem Reads.zeroNibble {k : Nat} (n : Nibble) {f : Reader} (h : Reads k f) : Reads k (zeroNibble n f) :=
  Reads.ite h (Reads.undef k)

theorem Reads.imm32Field {k : Nat} {g : Long → Reader} (h : ∀ x, Reads (k + 2) (g x)) :
    Reads k (imm32Field g) := Reads.nextWord fun _ => Reads.nextWord fun _ => h _

theorem Reads.addr24Field {k : Nat} {g : Long → Reader} (h : ∀ x, Reads (k + 2) (g x)) :
    Reads k (addr24Field g) :=
  Reads.nextWord fun _ => Reads.ite (Reads.nextWord fun _ => h _) (Reads.undef _)

/-! ## Each table -/

theorem reads_decode0 (b c d : Nibble) : Reads 1 (decode0 b c d) := by
  unfold decode0
  split <;> first
    | exact Reads.done _ 1
    | exact Reads.undef 1
    | exact Reads.zeroNibble _ (Reads.done _ 1)
    | exact Reads.zeroNibble _ (Reads.zeroNibble _ (Reads.done _ 1))
    | exact Reads.ite (Reads.longReg _ fun _ => Reads.done _ 1) (Reads.zeroNibble _ (Reads.done _ 1))
    | (split <;> first
        | exact Reads.done _ 1
        | exact Reads.undef 1
        | exact Reads.longReg _ fun _ => Reads.done _ 1)

theorem reads_decode1 (b c d : Nibble) : Reads 1 (decode1 b c d) := by
  unfold decode1
  split <;> first
    | exact Reads.done _ 1
    | exact Reads.undef 1
    | exact Reads.ite (Reads.longReg _ fun _ => Reads.done _ 1) (Reads.zeroNibble _ (Reads.done _ 1))
    | (split <;> first
        | exact Reads.done _ 1
        | exact Reads.undef 1
        | exact Reads.longReg _ fun _ => Reads.done _ 1)

theorem reads_decode5 (b c d : Nibble) : Reads 1 (decode5 b c d) := by
  unfold decode5
  split <;> first
    | exact Reads.done _ 1
    | exact Reads.longReg _ fun _ => Reads.done _ 1
    | exact Reads.ite (Reads.done _ 1) (Reads.undef 1)
    | exact Reads.ite (Reads.zeroNibble _ (Reads.done _ 1)) (Reads.undef 1)
    | exact Reads.longReg _ fun _ => Reads.zeroNibble _ (Reads.done _ 1)
    | exact Reads.nextWord fun _ => Reads.done _ 2
    | exact Reads.zeroNibble _ (Reads.nextWord fun _ => Reads.done _ 2)
    | exact Reads.zeroNibble _ (Reads.zeroNibble _ (Reads.nextWord fun _ => Reads.done _ 2))

theorem reads_decode6 (b c d : Nibble) : Reads 1 (decode6 b c d) := by
  unfold decode6
  split <;> first
    | exact Reads.done _ 1
    | exact Reads.nextWord fun _ => Reads.done _ 2
    | (split <;> first
        | exact Reads.undef 1
        | exact Reads.nextWord fun _ => Reads.done _ 2
        | exact Reads.addr24Field fun _ => Reads.done _ 3)

theorem reads_decode79 (c rd : Nibble) : Reads 1 (decode79 c rd) := by
  unfold decode79
  split <;> first
    | exact Reads.undef 1
    | exact Reads.nextWord fun _ => Reads.done _ 2

theorem reads_decode7A (c : Nibble) (erd : Reg3) : Reads 1 (decode7A c erd) := by
  unfold decode7A
  split <;> first
    | exact Reads.undef 1
    | exact Reads.imm32Field fun _ => Reads.done _ 3

theorem reads_decode78 (er : Reg3) : Reads 1 (decode78 er) := by
  unfold decode78
  refine Reads.nextWord fun w1 => ?_
  split <;> first
    | exact Reads.undef 2
    | exact Reads.addr24Field fun _ => Reads.done _ 4

theorem reads_decodeBitReadInd (er : Reg3) (w1 : Word) : Reads 2 (decodeBitReadInd er w1) := by
  unfold decodeBitReadInd
  refine Reads.zeroNibble _ ?_
  split <;> first | exact Reads.done _ 2 | exact Reads.undef 2

theorem reads_decodeBitReadAa8 (aa : Byte) (w1 : Word) : Reads 2 (decodeBitReadAa8 aa w1) := by
  unfold decodeBitReadAa8
  refine Reads.zeroNibble _ ?_
  split <;> first | exact Reads.done _ 2 | exact Reads.undef 2

theorem reads_decodeBitWriteInd (er : Reg3) (w1 : Word) : Reads 2 (decodeBitWriteInd er w1) := by
  unfold decodeBitWriteInd
  refine Reads.zeroNibble _ ?_
  split <;> first | exact Reads.done _ 2 | exact Reads.undef 2

theorem reads_decodeBitWriteAa8 (aa : Byte) (w1 : Word) : Reads 2 (decodeBitWriteAa8 aa w1) := by
  unfold decodeBitWriteAa8
  refine Reads.zeroNibble _ ?_
  split <;> first | exact Reads.done _ 2 | exact Reads.undef 2

theorem reads_decode7 (b c d : Nibble) : Reads 1 (decode7 b c d) := by
  unfold decode7
  split <;> first
    | exact Reads.done _ 1
    | exact Reads.longReg _ fun _ => Reads.done _ 1
    | exact Reads.longReg _ fun _ => Reads.zeroNibble _ (reads_decode78 _)
    | exact reads_decode79 _ _
    | exact Reads.longReg _ fun _ => reads_decode7A _ _
    | exact Reads.longReg _ fun _ => Reads.zeroNibble _ (Reads.nextWord fun _ => reads_decodeBitReadInd _ _)
    | exact Reads.longReg _ fun _ => Reads.zeroNibble _ (Reads.nextWord fun _ => reads_decodeBitWriteInd _ _)
    | exact Reads.nextWord fun _ => reads_decodeBitReadAa8 _ _
    | exact Reads.nextWord fun _ => reads_decodeBitWriteAa8 _ _
    | (split <;> first
        | exact Reads.undef 1
        | exact Reads.nextWord fun _ => Reads.ite (Reads.done _ 2) (Reads.undef 2))

theorem reads_decode0100 : Reads 1 decode0100 := by
  unfold decode0100
  refine Reads.nextWord fun w1 => ?_
  split <;> first
    | exact Reads.undef 2
    | exact Reads.longReg _ fun _ => Reads.done _ 2
    | exact Reads.longReg _ fun _ => Reads.nextWord fun _ => Reads.done _ 3
    | (refine Reads.longReg _ fun _ => ?_
       split <;> first
        | exact Reads.undef 2
        | exact Reads.nextWord fun _ => Reads.done _ 3
        | exact Reads.addr24Field fun _ => Reads.done _ 4)
    | (refine Reads.zeroNibble _ (Reads.nextWord fun _ => ?_)
       split <;> first
        | exact Reads.undef 3
        | exact Reads.longReg _ fun _ => Reads.addr24Field fun _ => Reads.done _ 5)

theorem reads_decode0140 : Reads 1 decode0140 := by
  unfold decode0140
  refine Reads.nextWord fun w1 => ?_
  split <;> first
    | exact Reads.undef 2
    | exact Reads.zeroNibble _ (Reads.done _ 2)
    | exact Reads.zeroNibble _ (Reads.nextWord fun _ => Reads.done _ 3)
    | (refine Reads.zeroNibble _ ?_
       split <;> first
        | exact Reads.undef 2
        | exact Reads.nextWord fun _ => Reads.done _ 3
        | exact Reads.addr24Field fun _ => Reads.done _ 4)
    | (refine Reads.longReg _ fun _ => Reads.zeroNibble _ (Reads.nextWord fun _ => ?_)
       split <;> first
        | exact Reads.undef 3
        | exact Reads.addr24Field fun _ => Reads.done _ 5)

theorem reads_decode01 (c d : Nibble) : Reads 1 (decode01 c d) := by
  unfold decode01
  split <;> first
    | exact Reads.done _ 1
    | exact Reads.undef 1
    | exact reads_decode0100
    | exact reads_decode0140
    | (refine Reads.nextWord fun w1 => ?_
       split <;> first
        | exact Reads.undef 2
        | exact Reads.done _ 2
        | exact Reads.longReg _ fun _ => Reads.done _ 2)
    | (refine Reads.nextWord fun w1 => Reads.longReg _ fun _ => Reads.longReg _ fun _ => ?_
       split <;> first
        | exact Reads.undef 2
        | exact Reads.done _ 2)

theorem reads_decodeNibbles (a b c d : Nibble) : Reads 1 (decodeNibbles a b c d) := by
  unfold decodeNibbles
  split <;> first
    | exact Reads.done _ 1
    | exact Reads.ite (reads_decode01 _ _) (reads_decode0 _ _ _)
    | exact reads_decode1 _ _ _
    | exact reads_decode5 _ _ _
    | exact reads_decode6 _ _ _
    | exact reads_decode7 _ _ _

/-- The decoder's answer does not depend on the words that follow an instruction, and counts exactly the
words it needed (R113). -/
theorem reads_decode : Reads 0 decode := Reads.nextWord fun _ => reads_decodeNibbles _ _ _ _

end Sys2Proof
end

