-- ==== Sys2Proof/Laws/Encoding.lean ====
section
/-! SUPPORT. Nibbles and fields: cutting a word that was joined from nibbles, and joining what was cut. -/

namespace Sys2Proof

@[simp] theorem nib3_ofNibbles (a b c d : Nibble) : nib3 (ofNibbles a b c d) = a := by
  unfold nib3 ofNibbles
  ext i hi
  simp [BitVec.getElem_extractLsb']
  grind

@[simp] theorem nib2_ofNibbles (a b c d : Nibble) : nib2 (ofNibbles a b c d) = b := by
  unfold nib2 ofNibbles
  ext i hi
  simp [BitVec.getElem_extractLsb']
  grind

@[simp] theorem nib1_ofNibbles (a b c d : Nibble) : nib1 (ofNibbles a b c d) = c := by
  unfold nib1 ofNibbles
  ext i hi
  simp [BitVec.getElem_extractLsb']
  grind

@[simp] theorem nib0_ofNibbles (a b c d : Nibble) : nib0 (ofNibbles a b c d) = d := by
  unfold nib0 ofNibbles
  ext i hi
  simp [BitVec.getElem_extractLsb']
  grind

@[simp] theorem ofNibbles_nibs (w : Word) : ofNibbles (nib3 w) (nib2 w) (nib1 w) (nib0 w) = w := by
  unfold ofNibbles nib3 nib2 nib1 nib0
  apply BitVec.eq_of_getLsbD_eq
  intro i hi
  simp only [BitVec.getLsbD_append, BitVec.getLsbD_extractLsb']
  interval_cases i <;> simp

@[simp] theorem byteOf_hiN_loN (b : Byte) : byteOf (hiN b) (loN b) = b := by
  revert b; decide

@[simp] theorem hiN_byteOf (a b : Nibble) : hiN (byteOf a b) = a := by revert a b; decide

@[simp] theorem loN_byteOf (a b : Nibble) : loN (byteOf a b) = b := by revert a b; decide

@[simp] theorem lo3_reg0 (n : BitVec 3) : lo3 (reg0 n) = n := by revert n; decide

@[simp] theorem lo3_reg1 (n : BitVec 3) : lo3 (reg1 n) = n := by revert n; decide

@[simp] theorem msb_reg0 (n : BitVec 3) : (reg0 n).msb = false := by revert n; decide

@[simp] theorem msb_reg1 (n : BitVec 3) : (reg1 n).msb = true := by revert n; decide

theorem reg0_lo3 {n : Nibble} (h : n.msb = false) : reg0 (lo3 n) = n := by revert n; decide

theorem reg1_lo3 {n : Nibble} (h : n.msb = true) : reg1 (lo3 n) = n := by revert n; decide

@[simp] theorem vec0_hi (v : BitVec 2) : (vec0 v).extractLsb' 2 2 = 0 := by revert v; decide

@[simp] theorem vec0_lo (v : BitVec 2) : (vec0 v).extractLsb' 0 2 = v := by revert v; decide

theorem vec0_of {n : Nibble} (h : n.extractLsb' 2 2 = 0) : vec0 (n.extractLsb' 0 2) = n := by
  revert n; decide

@[simp] theorem hi16_lo16 (x : Long) : hi16 x ++ lo16 x = x := by
  unfold hi16 lo16
  apply BitVec.eq_of_getLsbD_eq
  intro i hi
  simp only [BitVec.getLsbD_append, BitVec.getLsbD_extractLsb']
  interval_cases i <;> simp

@[simp] theorem hi16_append (a b : Word) : hi16 (a ++ b) = a := by
  unfold hi16
  ext i hi
  simp [BitVec.getElem_extractLsb']
  grind

@[simp] theorem lo16_append (a b : Word) : lo16 (a ++ b) = b := by
  unfold lo16
  ext i hi
  simp [BitVec.getElem_extractLsb']
  grind

@[simp] theorem top8_lo16 (x : BitVec 24) : byteOf (hiN (top8 x)) (loN (top8 x)) ++ lo16 x = x := by
  rw [byteOf_hiN_loN]
  unfold top8 lo16
  apply BitVec.eq_of_getLsbD_eq
  intro i hi
  simp only [BitVec.getLsbD_append, BitVec.getLsbD_extractLsb']
  interval_cases i <;> simp

@[simp] theorem top8_append (a : Byte) (b : Word) : top8 (a ++ b) = a := by
  unfold top8
  ext i hi
  simp [BitVec.getElem_extractLsb']
  grind

@[simp] theorem lo16_append24 (a : Byte) (b : Word) : lo16 (a ++ b) = b := by
  unfold lo16
  ext i hi
  simp [BitVec.getElem_extractLsb']
  grind

theorem top_hi16 (x : Long) : (hi16 x).extractLsb' 8 8 = x.extractLsb' 24 8 := by
  unfold hi16
  ext i hi
  simp [BitVec.getElem_extractLsb']
  grind

/-- The top byte of a 24-bit field is that of its first word. -/
theorem topByte_hi16 {x : Long} (h : topByteZero x = true) : (hi16 x).extractLsb' 8 8 = 0#8 := by
  rw [top_hi16]
  exact beq_iff_eq.1 h

theorem topByte_append {a b : Word} (h : a.extractLsb' 8 8 = 0#8) : topByteZero (a ++ b) = true := by
  refine beq_iff_eq.2 ?_
  rw [← top_hi16, hi16_append]
  exact h

end Sys2Proof
end

