-- ==== Sys2Proof/Laws/Fetch.lean ====
section
/-! SUPPORT. What fetching does (30_encoding.md rules R101, R102; 70_reset_and_hazards.md rules R353, R354): it reads
words until the decoder has decided, and changes only PC, unless a word covers SSRDR. -/

namespace Sys2Proof.Machine

theorem SameWorld.wordAt {s t : State} (h : SameWorld s t) (a : Word) : wordAt t a = wordAt s a := by
  simp only [Machine.wordAt, h.bytes]

/-- One fetch (R101). -/
theorem State.fetch16_spec (s : State) :
    s.fetch16.1 = wordAt s s.pc16 ∧ s.fetch16.2.pc = wrap24 (s.pc + 2) ∧ s.fetch16.2.er = s.er
      ∧ s.fetch16.2.ccr = s.ccr ∧ s.fetch16.2.freeIndex = s.freeIndex
      ∧ ReadWorld s s.fetch16.2 (touchesW s.pc16) := by
  obtain ⟨e1, e2, e3, e4⟩ := s.read16_cpu s.pc16
  refine ⟨s.read16_value _, ?_, e1, e3, e4, (s.readWorld_read16 _).of_same (State.setPc_world _ _)⟩
  show mod24 _ = _
  rw [mod24_eq_wrap24, e2]

/-- A fetch that does not cover SSRDR changes only PC. -/
theorem State.fetch16_quiet (s : State) (h : ¬ touchesW s.pc16) :
    s.fetch16 = (wordAt s s.pc16, { s with pc := wrap24 (s.pc + 2) }) := by
  unfold State.fetch16
  rw [s.read16_value, s.read16_quiet h, State.setPc_eq]

/-- Fetching from `done` words on, when `ws` are the words that follow and the decoder decides on the last of them. -/
theorem State.fetchFrom_spec (ws done : List Word) (s : State) (hws : s.fetchedWords ws.length = ws)
    (hne : ws ≠ []) (hmore : ∀ k, 0 < k → k < ws.length → decode (done ++ ws.take k) = .needMore)
    {fuel : Nat} (hf : ws.length ≤ fuel) :
    (∀ i n, decode (done ++ ws) = .instr i n →
      State.fetchFrom fuel done s = ⟨some i, done ++ ws, s.afterFetch ws.length⟩) ∧
    (decode (done ++ ws) = .undefinedOpcode →
      State.fetchFrom fuel done s = ⟨none, done ++ ws, s.afterFetch ws.length⟩) := by
  induction ws generalizing done s fuel with
  | nil => exact absurd rfl hne
  | cons w ws ih =>
    obtain ⟨fuel, rfl⟩ : ∃ f, fuel = f + 1 := ⟨fuel - 1, by simp at hf; omega⟩
    simp only [List.length_cons, State.fetchedWords, List.cons.injEq] at hws
    obtain ⟨hw, hrest⟩ := hws
    rw [State.fetchFrom, hw]
    by_cases hnil : ws = []
    · subst hnil
      exact ⟨fun i n h => by rw [h]; rfl, fun h => by rw [h]; rfl⟩
    · have h1 : decode (done ++ [w]) = .needMore := by
        have := hmore 1 (by omega) (by
          have := List.length_pos_iff.mpr hnil
          simp only [List.length_cons]; omega)
        simpa using this
      rw [h1]
      have := ih (done ++ [w]) s.fetch16.2 hrest hnil
        (fun k h0 hk => by
          have := hmore (k + 1) (by omega) (by simp only [List.length_cons]; omega)
          simpa using this)
        (fuel := fuel) (by simp only [List.length_cons] at hf; omega)
      simpa only [List.append_assoc, List.singleton_append, List.length_cons, State.afterFetch] using this

/-- The address of the k-th word after the first, seen from the state after the first fetch. -/
theorem fetch_address (x : Long) (k : Nat) :
    (wrap24 (x + 2)).setWidth 16 + BitVec.ofNat 16 (2 * k) = x.setWidth 16 + BitVec.ofNat 16 (2 * (k + 1)) := by
  have h : (wrap24 (x + 2)).setWidth 16 = x.setWidth 16 + 2#16 := by
    apply BitVec.eq_of_toNat_eq
    unfold wrap24
    rw [BitVec.toNat_setWidth, BitVec.toNat_ofNat, BitVec.toNat_add, BitVec.toNat_add, BitVec.toNat_setWidth,
      show (2 : Long).toNat = 2 from rfl, show (2#16).toNat = 2 from rfl]
    have := x.isLt
    omega
  rw [h, BitVec.add_assoc, ← BitVec.ofNat_add]
  congr 2
  omega

/-- The words and the state after `n` fetches of which none covers SSRDR. -/
theorem State.fetchedWords_quiet (n : Nat) (s : State)
    (h : ∀ k < n, ¬ touchesW (s.pc16 + BitVec.ofNat 16 (2 * k))) :
    s.fetchedWords n = (List.range n).map (fun k => wordAt s (s.pc16 + BitVec.ofNat 16 (2 * k))) := by
  induction n generalizing s with
  | zero => rfl
  | succ n ih =>
    have h0 : ¬ touchesW s.pc16 := by simpa using h 0 (by omega)
    have hpc : ∀ k, (({ s with pc := wrap24 (s.pc + 2) } : State).pc16 + BitVec.ofNat 16 (2 * k))
        = s.pc16 + BitVec.ofNat 16 (2 * (k + 1)) := fetch_address s.pc
    rw [State.fetchedWords, s.fetch16_quiet h0, ih]
    · rw [List.range_succ_eq_map, List.map_cons, List.map_map]
      congr 1
      · simp
      · apply List.map_congr_left
        intro k _
        simp only [Function.comp, hpc]
        have hw : SameWorld s { s with pc := wrap24 (s.pc + 2) } := SameWorld.of_fields rfl rfl rfl rfl rfl
        exact hw.wordAt _
    · intro k hk
      rw [hpc]; exact h (k + 1) (by omega)

theorem State.afterFetch_quiet (n : Nat) (s : State)
    (h : ∀ k < n + 1, ¬ touchesW (s.pc16 + BitVec.ofNat 16 (2 * k))) :
    s.afterFetch (n + 1) = { s with pc := wrap24 (s.pc + BitVec.ofNat 32 (2 * (n + 1))) } := by
  induction n generalizing s with
  | zero =>
    have h0 : ¬ touchesW s.pc16 := by simpa using h 0 (by omega)
    rw [State.afterFetch, State.afterFetch, s.fetch16_quiet h0]
    rfl
  | succ n ih =>
    have h0 : ¬ touchesW s.pc16 := by simpa using h 0 (by omega)
    have hpc : ∀ k, (({ s with pc := wrap24 (s.pc + 2) } : State).pc16 + BitVec.ofNat 16 (2 * k))
        = s.pc16 + BitVec.ofNat 16 (2 * (k + 1)) := fetch_address s.pc
    rw [State.afterFetch, s.fetch16_quiet h0, ih]
    · rw [wrap24_add, BitVec.add_assoc]
      have h2 : (2 : Long) + BitVec.ofNat 32 (2 * (n + 1)) = BitVec.ofNat 32 (2 * (n + 1 + 1)) := by
        rw [show (2 : Long) = BitVec.ofNat 32 2 from rfl, ← BitVec.ofNat_add]
        congr 1; omega
      rw [h2]
    · intro k hk
      rw [hpc]; exact h (k + 1) (by omega)

/-- What fetching keeps: everything but PC and what a read of SSRDR clears. -/
theorem State.afterFetch_spec (n : Nat) (s : State) :
    (s.afterFetch n).er = s.er ∧ (s.afterFetch n).ccr = s.ccr ∧ (s.afterFetch n).freeIndex = s.freeIndex
      ∧ (s.afterFetch n).rom = s.rom ∧ (s.afterFetch n).ram = s.ram ∧ (s.afterFetch n).params = s.params
      ∧ (s.afterFetch n).initialized = s.initialized := by
  induction n generalizing s with
  | zero => exact ⟨rfl, rfl, rfl, rfl, rfl, rfl, rfl⟩
  | succ n ih =>
    obtain ⟨_, _, e, c, f, w⟩ := s.fetch16_spec
    obtain ⟨a1, a2, a3, a4, a5, a6, a7⟩ := ih s.fetch16.2
    exact ⟨a1.trans e, a2.trans c, a3.trans f, a4.trans w.rom, a5.trans w.ram, a6.trans w.params,
      a7.trans w.initialized⟩

/-- The vector load (R353). -/
theorem State.loadVector_spec (s : State) :
    (s.initialized = true → s.loadVector = s)
      ∧ (s.initialized = false → s.loadVector
          = { s with pc := (s.rom.read 0 ++ s.rom.read 1).setWidth 32, initialized := true }) := by
  constructor
  · intro h; simp [State.loadVector, h]
  · intro h
    have hq := s.read16_quiet (a := 0) (by decide)
    have hv : (s.read16 0).1 = s.rom.read 0 ++ s.rom.read 1 := by rw [s.read16_value]; rfl
    simp only [State.loadVector, h, Bool.false_eq_true, if_false, hq, hv, State.setPc_eq, wrap24_word]

end Sys2Proof.Machine
end

