-- ==== Sys2Proof/Laws/Invariant.lean ====
section
/-! SUPPORT. The invariant under each shared operation (10_state.md rule R46): one lemma per operation. -/

namespace Sys2Proof.Machine

/-- The SSU's part of the invariant. -/
structure SsuInv (u : Ssu) : Prop where
  bitCounter : u.bitCounter ≤ 7
  clockCounter : u.clockCounter < 256
  status : u.sssr &&& 0xB0 = 0

theorem Inv.ssu {s : State} (h : Inv s) : SsuInv s.ssu := ⟨h.bitCounter, h.clockCounter, h.status⟩

/-- Updates of the CPU's registers other than PC keep the invariant. -/
theorem Inv.of_fields {s t : State} (h : Inv s) (hpc : t.pc = s.pc) (hrom : t.rom = s.rom)
    (hram : t.ram = s.ram) (hssu : t.ssu = s.ssu) : Inv t :=
  ⟨by rw [hpc]; exact h.pc, by rw [hssu]; exact h.bitCounter, by rw [hssu]; exact h.clockCounter,
    by rw [hssu]; exact h.status, by rw [hrom]; exact h.rom, by rw [hram]; exact h.ram⟩

theorem mod24_lt (t : Long) : (mod24 t).toNat < 2 ^ 24 := by
  unfold mod24
  rw [BitVec.toNat_setWidth_of_le (by omega)]
  exact (t.setWidth 24).isLt

theorem Inv.setPc {s : State} (h : Inv s) (t : Long) : Inv (s.setPc t) :=
  ⟨mod24_lt t, h.bitCounter, h.clockCounter, h.status, h.rom, h.ram⟩

theorem Inv.with_ssu {s : State} (h : Inv s) {u : Ssu} (hu : SsuInv u) : Inv { s with ssu := u } :=
  ⟨h.pc, hu.bitCounter, hu.clockCounter, hu.status, h.rom, h.ram⟩

/-! ## The SSU -/

theorem reserved_setBit (b : Byte) (x : Bool) (h : b &&& 0xB0 = 0) :
    setBit b 1 x &&& 0xB0 = 0 ∧ setBit b 2 x &&& 0xB0 = 0 ∧ setBit b 3 x &&& 0xB0 = 0
      ∧ setBit b 6 x &&& 0xB0 = 0 := by
  revert b; cases x <;> decide

theorem reserved_and (b v : Byte) (h : b &&& 0xB0 = 0) : (b &&& v) &&& 0xB0 = 0 := by
  rw [BitVec.and_assoc, BitVec.and_comm v, ← BitVec.and_assoc, h]; simp

theorem SsuInv.write {u : Ssu} (h : SsuInv u) (k : SsuReg) (v : Byte) : SsuInv (u.write k v) := by
  cases k
  case sssr => exact ⟨h.bitCounter, h.clockCounter, reserved_and _ _ h.status⟩
  case sstdr =>
    unfold Ssu.write Ssu.writeSstdr
    simp only
    split
    · exact ⟨by simp, by simp, (reserved_setBit _ _ h.status).2.2.1⟩
    · exact ⟨h.bitCounter, h.clockCounter, (reserved_setBit _ _ h.status).2.1⟩
  all_goals exact ⟨h.bitCounter, h.clockCounter, h.status⟩

theorem SsuInv.read {u : Ssu} (h : SsuInv u) (k : SsuReg) : SsuInv (u.read k).2 := by
  cases k
  case ssrdr => exact ⟨h.bitCounter, h.clockCounter, (reserved_setBit _ _ h.status).1⟩
  all_goals exact h

theorem cks_pow_le (u : Ssu) : 2 ^ u.cks ≤ 128 := by
  have : u.cks ≤ 7 := by
    have := (u.ssmr.extractLsb' 0 3).isLt
    unfold Ssu.cks; omega
  calc 2 ^ u.cks ≤ 2 ^ 7 := Nat.pow_le_pow_right (by omega) this
    _ = 128 := rfl

theorem Ssu.endTransmit_spec (u : Ssu) (h : u.sssr &&& 0xB0 = 0) :
    u.endTransmit.clockCounter = u.clockCounter ∧ u.endTransmit.sssr &&& 0xB0 = 0 := by
  unfold Ssu.endTransmit
  split
  · exact ⟨rfl, (reserved_setBit _ _ h).2.2.1⟩
  · exact ⟨rfl, (reserved_setBit _ _ h).2.1⟩

theorem Ssu.endReceive_spec (rx : Byte) (u : Ssu) (h : u.sssr &&& 0xB0 = 0) :
    (u.endReceive rx).clockCounter = u.clockCounter ∧ (u.endReceive rx).sssr &&& 0xB0 = 0 := by
  unfold Ssu.endReceive
  split
  · exact ⟨rfl, (reserved_setBit _ _ h).2.2.2⟩
  · exact ⟨rfl, h⟩

theorem Ssu.endOfByte_inv (rx : Byte) (u : Ssu) (hc : u.clockCounter < 256) (h : u.sssr &&& 0xB0 = 0) :
    SsuInv (u.endOfByte rx) := by
  obtain ⟨c1, s1⟩ := u.endTransmit_spec h
  obtain ⟨c2, s2⟩ := Ssu.endReceive_spec rx u.endTransmit s1
  exact ⟨Nat.zero_le 7, by rw [← c1, ← c2] at hc; exact hc, (reserved_setBit _ _ s2).1⟩

theorem Ssu.advance_spec (u : Ssu) :
    u.advance.clockCounter = (u.clockCounter + 2 ^ u.cks) - (if 256 ≤ u.clockCounter + 2 ^ u.cks then 256 else 0)
      ∧ u.advance.bitCounter = u.bitCounter + (if 256 ≤ u.clockCounter + 2 ^ u.cks then 1 else 0)
      ∧ u.advance.sssr = u.sssr := by
  unfold Ssu.advance
  split <;> exact ⟨rfl, rfl, rfl⟩

/-- What one cycle leaves (R328). -/
theorem SsuInv.cycle {u : Ssu} (h : SsuInv u) (rx : Byte) : SsuInv (u.cycle rx) := by
  have hp := cks_pow_le u
  have hb := h.bitCounter
  have hc := h.clockCounter
  obtain ⟨e1, e2, e3⟩ := u.advance_spec
  have hclock : u.advance.clockCounter < 256 := by
    rw [e1]; generalize 2 ^ u.cks = p at hp; split <;> omega
  have hstat : u.advance.sssr &&& 0xB0 = 0 := by rw [e3]; exact h.status
  unfold Ssu.cycle
  split
  · exact h
  split
  · exact Ssu.endOfByte_inv rx _ hclock hstat
  · rename_i hne
    refine ⟨?_, hclock, hstat⟩
    by_cases hge : 256 ≤ u.clockCounter + 2 ^ u.cks
    · rw [if_pos hge] at e2; omega
    · rw [if_neg hge] at e2; omega

/-! ## The bus -/

theorem Inv.write8 {s : State} (h : Inv s) (a : Word) (v : Byte) : Inv (s.write8 a v) := by
  unfold State.write8
  split <;> rename_i ha
  · exact h
  · obtain ⟨e, hr⟩ := decodeAddr_ram ha
    rw [e]
    exact ⟨h.pc, h.bitCounter, h.clockCounter, h.status, h.rom, Memory.wf_write h.ram hr.1 hr.2 v⟩
  · exact h
  · exact h.with_ssu (h.ssu.write _ v)
  · exact h

theorem Inv.write16 {s : State} (h : Inv s) (a v : Word) : Inv (s.write16 a v) :=
  (h.write8 _ _).write8 _ _

theorem Inv.write32 {s : State} (h : Inv s) (a : Word) (v : Long) : Inv (s.write32 a v) :=
  (h.write16 _ _).write16 _ _

theorem Inv.read8 {s : State} (h : Inv s) (a : Word) : Inv (s.read8 a).2 := by
  unfold State.read8
  split
  · exact h
  · exact h
  · exact h
  · exact h.with_ssu (h.ssu.read _)
  · exact h

theorem Inv.read16 {s : State} (h : Inv s) (a : Word) : Inv (s.read16 a).2 := (h.read8 _).read8 _

theorem Inv.read32 {s : State} (h : Inv s) (a : Word) : Inv (s.read32 a).2 := by
  have := (h.read16 a).read16 (a + 2)
  simpa only [State.read32] using this

theorem Inv.busCycle {s : State} (h : Inv s) : Inv s.busCycle := h.with_ssu (h.ssu.cycle _)

/-! ## Operands, the stack, calls -/

theorem Inv.moveB {s : State} (h : Inv s) (rd : Reg4) (v : Byte) : Inv (s.moveB rd v) :=
  h.of_fields rfl rfl rfl rfl

theorem Inv.moveW {s : State} (h : Inv s) (rd : Reg4) (v : Word) : Inv (s.moveW rd v) :=
  h.of_fields rfl rfl rfl rfl

theorem Inv.moveL {s : State} (h : Inv s) (n : Reg3) (v : Long) : Inv (s.moveL n v) :=
  h.of_fields rfl rfl rfl rfl

theorem Inv.setReg {s : State} (h : Inv s) (n : Reg3) (v : Long) : Inv (s.setReg n v) :=
  h.of_fields rfl rfl rfl rfl

theorem Inv.loadB {s : State} (h : Inv s) (ea : Word) (rd : Reg4) : Inv (s.loadB ea rd) := (h.read8 _).moveB _ _

theorem Inv.loadW {s : State} (h : Inv s) (ea : Word) (rd : Reg4) : Inv (s.loadW ea rd) :=
  (h.read16 _).moveW _ _

theorem Inv.loadL {s : State} (h : Inv s) (ea : Word) (n : Reg3) : Inv (s.loadL ea n) :=
  (h.read32 _).moveL _ _

theorem Inv.loadPostB {s : State} (h : Inv s) (ers : Reg3) (rd : Reg4) : Inv (s.loadPostB ers rd) :=
  ((h.read8 _).setReg _ _).moveB _ _

theorem Inv.loadPostW {s : State} (h : Inv s) (ers : Reg3) (rd : Reg4) : Inv (s.loadPostW ers rd) :=
  ((h.read16 _).setReg _ _).moveW _ _

theorem Inv.loadPostL {s : State} (h : Inv s) (ers erd : Reg3) : Inv (s.loadPostL ers erd) :=
  ((h.read32 _).setReg _ _).moveL _ _

theorem Inv.storeB {s : State} (h : Inv s) (ea : Word) (v : Byte) : Inv (s.storeB ea v) :=
  (h.write8 ea v).of_fields rfl rfl rfl rfl

theorem Inv.storeW {s : State} (h : Inv s) (ea v : Word) : Inv (s.storeW ea v) :=
  (h.write16 ea v).of_fields rfl rfl rfl rfl

theorem Inv.storeL {s : State} (h : Inv s) (ea : Word) (v : Long) : Inv (s.storeL ea v) :=
  (h.write32 ea v).of_fields rfl rfl rfl rfl

theorem Inv.storePreB {s : State} (h : Inv s) (rs : Reg4) (erd : Reg3) : Inv (s.storePreB rs erd) :=
  (h.setReg _ _).storeB _ _

theorem Inv.storePreW {s : State} (h : Inv s) (rs : Reg4) (erd : Reg3) : Inv (s.storePreW rs erd) :=
  (h.setReg _ _).storeW _ _

theorem Inv.storePreL {s : State} (h : Inv s) (ers erd : Reg3) : Inv (s.storePreL ers erd) :=
  (h.setReg _ _).storeL _ _

theorem Inv.modifyBit {s : State} (h : Inv s) (ea : Word) (n : Nat) (f : Bool → Bool) :
    Inv (s.modifyBit ea n f) := (h.read8 _).write8 _ _

theorem Inv.testBitAt {s : State} (h : Inv s) (ea : Word) (n : Nat) : Inv (s.testBitAt ea n) :=
  (h.read8 ea).of_fields rfl rfl rfl rfl

theorem Inv.carryBitAt {s : State} (h : Inv s) (ea : Word) (n : Nat) (f : Bool → Bool → Bool) :
    Inv (s.carryBitAt ea n f) := (h.read8 ea).of_fields rfl rfl rfl rfl

theorem Inv.push16 {s : State} (h : Inv s) (v : Word) : Inv (s.push16 v) := (h.setReg _ _).write16 _ _

theorem Inv.pop16 {s : State} (h : Inv s) : Inv s.pop16.2 := (h.read16 _).setReg _ _

/-- A ROM image, whatever its bytes, keeps the invariant (R362). -/
theorem Inv.installRom {s : State} (h : Inv s) (image : RomImage) : Inv (s.installRom image) :=
  ⟨h.pc, h.bitCounter, h.clockCounter, h.status, Memory.wf_ofBytes 0 image.toList (by simp), h.ram⟩

theorem Inv.raiseUndefinedOpcode {s t : State} (h : Inv s) {a : Long} {w : Word}
    (e : s.raiseUndefinedOpcode a w = .next t) : Inv t := by
  unfold State.raiseUndefinedOpcode at e
  split at e
  · cases e; exact h.setPc _
  · cases e

end Sys2Proof.Machine
end

