-- ==== Sys2Proof/Laws/PerInstr.lean ====
section
/-! SUPPORT. Laws stated once and proved instruction by instruction. `EncodedLength`: an instruction is one to five
words long, "2, 4, 6, 8, or 10 bytes" (30_encoding.md rule R100). -/

namespace Sys2Proof.Laws

/-- An instruction has at least one word and at most `maxWords`. -/
def EncodedLength.Statement (i : Instr) : Prop := 1 ≤ (encode i).length ∧ (encode i).length ≤ maxWords

theorem EncodedLength.movB_rs_rd (rs : Reg4) (rd : Reg4) : EncodedLength.Statement (.movB_rs_rd rs rd) :=
  ⟨Nat.le_of_ble_eq_true rfl, Nat.le_of_ble_eq_true rfl⟩

theorem EncodedLength.movB_imm_rd (imm : Byte) (rd : Reg4) : EncodedLength.Statement (.movB_imm_rd imm rd) :=
  ⟨Nat.le_of_ble_eq_true rfl, Nat.le_of_ble_eq_true rfl⟩

theorem EncodedLength.movB_ind_rd (ers : Reg3) (rd : Reg4) : EncodedLength.Statement (.movB_ind_rd ers rd) :=
  ⟨Nat.le_of_ble_eq_true rfl, Nat.le_of_ble_eq_true rfl⟩

theorem EncodedLength.movB_d16_rd (disp : Word) (ers : Reg3) (rd : Reg4) : EncodedLength.Statement (.movB_d16_rd disp ers rd) :=
  ⟨Nat.le_of_ble_eq_true rfl, Nat.le_of_ble_eq_true rfl⟩

theorem EncodedLength.movB_d24_rd (disp : Long) (ers : Reg3) (rd : Reg4) : EncodedLength.Statement (.movB_d24_rd disp ers rd) :=
  ⟨Nat.le_of_ble_eq_true rfl, Nat.le_of_ble_eq_true rfl⟩

theorem EncodedLength.movB_postInc_rd (ers : Reg3) (rd : Reg4) : EncodedLength.Statement (.movB_postInc_rd ers rd) :=
  ⟨Nat.le_of_ble_eq_true rfl, Nat.le_of_ble_eq_true rfl⟩

theorem EncodedLength.movB_aa8_rd (aa : Byte) (rd : Reg4) : EncodedLength.Statement (.movB_aa8_rd aa rd) :=
  ⟨Nat.le_of_ble_eq_true rfl, Nat.le_of_ble_eq_true rfl⟩

theorem EncodedLength.movB_aa16_rd (aa : Word) (rd : Reg4) : EncodedLength.Statement (.movB_aa16_rd aa rd) :=
  ⟨Nat.le_of_ble_eq_true rfl, Nat.le_of_ble_eq_true rfl⟩

theorem EncodedLength.movB_aa24_rd (aa : Long) (rd : Reg4) : EncodedLength.Statement (.movB_aa24_rd aa rd) :=
  ⟨Nat.le_of_ble_eq_true rfl, Nat.le_of_ble_eq_true rfl⟩

theorem EncodedLength.movB_rs_ind (rs : Reg4) (erd : Reg3) : EncodedLength.Statement (.movB_rs_ind rs erd) :=
  ⟨Nat.le_of_ble_eq_true rfl, Nat.le_of_ble_eq_true rfl⟩

theorem EncodedLength.movB_rs_d16 (rs : Reg4) (disp : Word) (erd : Reg3) : EncodedLength.Statement (.movB_rs_d16 rs disp erd) :=
  ⟨Nat.le_of_ble_eq_true rfl, Nat.le_of_ble_eq_true rfl⟩

theorem EncodedLength.movB_rs_d24 (rs : Reg4) (disp : Long) (erd : Reg3) : EncodedLength.Statement (.movB_rs_d24 rs disp erd) :=
  ⟨Nat.le_of_ble_eq_true rfl, Nat.le_of_ble_eq_true rfl⟩

theorem EncodedLength.movB_rs_preDec (rs : Reg4) (erd : Reg3) : EncodedLength.Statement (.movB_rs_preDec rs erd) :=
  ⟨Nat.le_of_ble_eq_true rfl, Nat.le_of_ble_eq_true rfl⟩

theorem EncodedLength.movB_rs_aa8 (rs : Reg4) (aa : Byte) : EncodedLength.Statement (.movB_rs_aa8 rs aa) :=
  ⟨Nat.le_of_ble_eq_true rfl, Nat.le_of_ble_eq_true rfl⟩

theorem EncodedLength.movB_rs_aa16 (rs : Reg4) (aa : Word) : EncodedLength.Statement (.movB_rs_aa16 rs aa) :=
  ⟨Nat.le_of_ble_eq_true rfl, Nat.le_of_ble_eq_true rfl⟩

theorem EncodedLength.movB_rs_aa24 (rs : Reg4) (aa : Long) : EncodedLength.Statement (.movB_rs_aa24 rs aa) :=
  ⟨Nat.le_of_ble_eq_true rfl, Nat.le_of_ble_eq_true rfl⟩

theorem EncodedLength.movW_rs_rd (rs : Reg4) (rd : Reg4) : EncodedLength.Statement (.movW_rs_rd rs rd) :=
  ⟨Nat.le_of_ble_eq_true rfl, Nat.le_of_ble_eq_true rfl⟩

theorem EncodedLength.movW_imm_rd (imm : Word) (rd : Reg4) : EncodedLength.Statement (.movW_imm_rd imm rd) :=
  ⟨Nat.le_of_ble_eq_true rfl, Nat.le_of_ble_eq_true rfl⟩

theorem EncodedLength.movW_ind_rd (ers : Reg3) (rd : Reg4) : EncodedLength.Statement (.movW_ind_rd ers rd) :=
  ⟨Nat.le_of_ble_eq_true rfl, Nat.le_of_ble_eq_true rfl⟩

theorem EncodedLength.movW_d16_rd (disp : Word) (ers : Reg3) (rd : Reg4) : EncodedLength.Statement (.movW_d16_rd disp ers rd) :=
  ⟨Nat.le_of_ble_eq_true rfl, Nat.le_of_ble_eq_true rfl⟩

theorem EncodedLength.movW_d24_rd (disp : Long) (ers : Reg3) (rd : Reg4) : EncodedLength.Statement (.movW_d24_rd disp ers rd) :=
  ⟨Nat.le_of_ble_eq_true rfl, Nat.le_of_ble_eq_true rfl⟩

theorem EncodedLength.movW_postInc_rd (ers : Reg3) (rd : Reg4) : EncodedLength.Statement (.movW_postInc_rd ers rd) :=
  ⟨Nat.le_of_ble_eq_true rfl, Nat.le_of_ble_eq_true rfl⟩

theorem EncodedLength.movW_aa16_rd (aa : Word) (rd : Reg4) : EncodedLength.Statement (.movW_aa16_rd aa rd) :=
  ⟨Nat.le_of_ble_eq_true rfl, Nat.le_of_ble_eq_true rfl⟩

theorem EncodedLength.movW_aa24_rd (aa : Long) (rd : Reg4) : EncodedLength.Statement (.movW_aa24_rd aa rd) :=
  ⟨Nat.le_of_ble_eq_true rfl, Nat.le_of_ble_eq_true rfl⟩

theorem EncodedLength.movW_rs_ind (rs : Reg4) (erd : Reg3) : EncodedLength.Statement (.movW_rs_ind rs erd) :=
  ⟨Nat.le_of_ble_eq_true rfl, Nat.le_of_ble_eq_true rfl⟩

theorem EncodedLength.movW_rs_d16 (rs : Reg4) (disp : Word) (erd : Reg3) : EncodedLength.Statement (.movW_rs_d16 rs disp erd) :=
  ⟨Nat.le_of_ble_eq_true rfl, Nat.le_of_ble_eq_true rfl⟩

theorem EncodedLength.movW_rs_d24 (rs : Reg4) (disp : Long) (erd : Reg3) : EncodedLength.Statement (.movW_rs_d24 rs disp erd) :=
  ⟨Nat.le_of_ble_eq_true rfl, Nat.le_of_ble_eq_true rfl⟩

theorem EncodedLength.movW_rs_preDec (rs : Reg4) (erd : Reg3) : EncodedLength.Statement (.movW_rs_preDec rs erd) :=
  ⟨Nat.le_of_ble_eq_true rfl, Nat.le_of_ble_eq_true rfl⟩

theorem EncodedLength.movW_rs_aa16 (rs : Reg4) (aa : Word) : EncodedLength.Statement (.movW_rs_aa16 rs aa) :=
  ⟨Nat.le_of_ble_eq_true rfl, Nat.le_of_ble_eq_true rfl⟩

theorem EncodedLength.movW_rs_aa24 (rs : Reg4) (aa : Long) : EncodedLength.Statement (.movW_rs_aa24 rs aa) :=
  ⟨Nat.le_of_ble_eq_true rfl, Nat.le_of_ble_eq_true rfl⟩

theorem EncodedLength.movL_ers_erd (ers : Reg3) (erd : Reg3) : EncodedLength.Statement (.movL_ers_erd ers erd) :=
  ⟨Nat.le_of_ble_eq_true rfl, Nat.le_of_ble_eq_true rfl⟩

theorem EncodedLength.movL_imm_erd (imm : Long) (erd : Reg3) : EncodedLength.Statement (.movL_imm_erd imm erd) :=
  ⟨Nat.le_of_ble_eq_true rfl, Nat.le_of_ble_eq_true rfl⟩

theorem EncodedLength.movL_ind_erd (ers : Reg3) (erd : Reg3) : EncodedLength.Statement (.movL_ind_erd ers erd) :=
  ⟨Nat.le_of_ble_eq_true rfl, Nat.le_of_ble_eq_true rfl⟩

theorem EncodedLength.movL_d16_erd (disp : Word) (ers : Reg3) (erd : Reg3) : EncodedLength.Statement (.movL_d16_erd disp ers erd) :=
  ⟨Nat.le_of_ble_eq_true rfl, Nat.le_of_ble_eq_true rfl⟩

theorem EncodedLength.movL_d24_erd (disp : Long) (ers : Reg3) (erd : Reg3) : EncodedLength.Statement (.movL_d24_erd disp ers erd) :=
  ⟨Nat.le_of_ble_eq_true rfl, Nat.le_of_ble_eq_true rfl⟩

theorem EncodedLength.movL_postInc_erd (ers : Reg3) (erd : Reg3) : EncodedLength.Statement (.movL_postInc_erd ers erd) :=
  ⟨Nat.le_of_ble_eq_true rfl, Nat.le_of_ble_eq_true rfl⟩

theorem EncodedLength.movL_aa16_erd (aa : Word) (erd : Reg3) : EncodedLength.Statement (.movL_aa16_erd aa erd) :=
  ⟨Nat.le_of_ble_eq_true rfl, Nat.le_of_ble_eq_true rfl⟩

theorem EncodedLength.movL_aa24_erd (aa : Long) (erd : Reg3) : EncodedLength.Statement (.movL_aa24_erd aa erd) :=
  ⟨Nat.le_of_ble_eq_true rfl, Nat.le_of_ble_eq_true rfl⟩

theorem EncodedLength.movL_ers_ind (ers : Reg3) (erd : Reg3) : EncodedLength.Statement (.movL_ers_ind ers erd) :=
  ⟨Nat.le_of_ble_eq_true rfl, Nat.le_of_ble_eq_true rfl⟩

theorem EncodedLength.movL_ers_d16 (ers : Reg3) (disp : Word) (erd : Reg3) : EncodedLength.Statement (.movL_ers_d16 ers disp erd) :=
  ⟨Nat.le_of_ble_eq_true rfl, Nat.le_of_ble_eq_true rfl⟩

theorem EncodedLength.movL_ers_d24 (ers : Reg3) (disp : Long) (erd : Reg3) : EncodedLength.Statement (.movL_ers_d24 ers disp erd) :=
  ⟨Nat.le_of_ble_eq_true rfl, Nat.le_of_ble_eq_true rfl⟩

theorem EncodedLength.movL_ers_preDec (ers : Reg3) (erd : Reg3) : EncodedLength.Statement (.movL_ers_preDec ers erd) :=
  ⟨Nat.le_of_ble_eq_true rfl, Nat.le_of_ble_eq_true rfl⟩

theorem EncodedLength.movL_ers_aa16 (ers : Reg3) (aa : Word) : EncodedLength.Statement (.movL_ers_aa16 ers aa) :=
  ⟨Nat.le_of_ble_eq_true rfl, Nat.le_of_ble_eq_true rfl⟩

theorem EncodedLength.movL_ers_aa24 (ers : Reg3) (aa : Long) : EncodedLength.Statement (.movL_ers_aa24 ers aa) :=
  ⟨Nat.le_of_ble_eq_true rfl, Nat.le_of_ble_eq_true rfl⟩

theorem EncodedLength.movfpe_aa16_rd (aa : Word) (rd : Reg4) : EncodedLength.Statement (.movfpe_aa16_rd aa rd) :=
  ⟨Nat.le_of_ble_eq_true rfl, Nat.le_of_ble_eq_true rfl⟩

theorem EncodedLength.movtpe_rs_aa16 (rs : Reg4) (aa : Word) : EncodedLength.Statement (.movtpe_rs_aa16 rs aa) :=
  ⟨Nat.le_of_ble_eq_true rfl, Nat.le_of_ble_eq_true rfl⟩

theorem EncodedLength.addB_imm_rd (imm : Byte) (rd : Reg4) : EncodedLength.Statement (.addB_imm_rd imm rd) :=
  ⟨Nat.le_of_ble_eq_true rfl, Nat.le_of_ble_eq_true rfl⟩

theorem EncodedLength.addB_rs_rd (rs : Reg4) (rd : Reg4) : EncodedLength.Statement (.addB_rs_rd rs rd) :=
  ⟨Nat.le_of_ble_eq_true rfl, Nat.le_of_ble_eq_true rfl⟩

theorem EncodedLength.addW_imm_rd (imm : Word) (rd : Reg4) : EncodedLength.Statement (.addW_imm_rd imm rd) :=
  ⟨Nat.le_of_ble_eq_true rfl, Nat.le_of_ble_eq_true rfl⟩

theorem EncodedLength.addW_rs_rd (rs : Reg4) (rd : Reg4) : EncodedLength.Statement (.addW_rs_rd rs rd) :=
  ⟨Nat.le_of_ble_eq_true rfl, Nat.le_of_ble_eq_true rfl⟩

theorem EncodedLength.addL_imm_erd (imm : Long) (erd : Reg3) : EncodedLength.Statement (.addL_imm_erd imm erd) :=
  ⟨Nat.le_of_ble_eq_true rfl, Nat.le_of_ble_eq_true rfl⟩

theorem EncodedLength.addL_ers_erd (ers : Reg3) (erd : Reg3) : EncodedLength.Statement (.addL_ers_erd ers erd) :=
  ⟨Nat.le_of_ble_eq_true rfl, Nat.le_of_ble_eq_true rfl⟩

theorem EncodedLength.adds_1 (erd : Reg3) : EncodedLength.Statement (.adds_1 erd) :=
  ⟨Nat.le_of_ble_eq_true rfl, Nat.le_of_ble_eq_true rfl⟩

theorem EncodedLength.adds_2 (erd : Reg3) : EncodedLength.Statement (.adds_2 erd) :=
  ⟨Nat.le_of_ble_eq_true rfl, Nat.le_of_ble_eq_true rfl⟩

theorem EncodedLength.adds_4 (erd : Reg3) : EncodedLength.Statement (.adds_4 erd) :=
  ⟨Nat.le_of_ble_eq_true rfl, Nat.le_of_ble_eq_true rfl⟩

theorem EncodedLength.addx_imm_rd (imm : Byte) (rd : Reg4) : EncodedLength.Statement (.addx_imm_rd imm rd) :=
  ⟨Nat.le_of_ble_eq_true rfl, Nat.le_of_ble_eq_true rfl⟩

theorem EncodedLength.addx_rs_rd (rs : Reg4) (rd : Reg4) : EncodedLength.Statement (.addx_rs_rd rs rd) :=
  ⟨Nat.le_of_ble_eq_true rfl, Nat.le_of_ble_eq_true rfl⟩

theorem EncodedLength.subB_rs_rd (rs : Reg4) (rd : Reg4) : EncodedLength.Statement (.subB_rs_rd rs rd) :=
  ⟨Nat.le_of_ble_eq_true rfl, Nat.le_of_ble_eq_true rfl⟩

theorem EncodedLength.subW_imm_rd (imm : Word) (rd : Reg4) : EncodedLength.Statement (.subW_imm_rd imm rd) :=
  ⟨Nat.le_of_ble_eq_true rfl, Nat.le_of_ble_eq_true rfl⟩

theorem EncodedLength.subW_rs_rd (rs : Reg4) (rd : Reg4) : EncodedLength.Statement (.subW_rs_rd rs rd) :=
  ⟨Nat.le_of_ble_eq_true rfl, Nat.le_of_ble_eq_true rfl⟩

theorem EncodedLength.subL_imm_erd (imm : Long) (erd : Reg3) : EncodedLength.Statement (.subL_imm_erd imm erd) :=
  ⟨Nat.le_of_ble_eq_true rfl, Nat.le_of_ble_eq_true rfl⟩

theorem EncodedLength.subL_ers_erd (ers : Reg3) (erd : Reg3) : EncodedLength.Statement (.subL_ers_erd ers erd) :=
  ⟨Nat.le_of_ble_eq_true rfl, Nat.le_of_ble_eq_true rfl⟩

theorem EncodedLength.subs_1 (erd : Reg3) : EncodedLength.Statement (.subs_1 erd) :=
  ⟨Nat.le_of_ble_eq_true rfl, Nat.le_of_ble_eq_true rfl⟩

theorem EncodedLength.subs_2 (erd : Reg3) : EncodedLength.Statement (.subs_2 erd) :=
  ⟨Nat.le_of_ble_eq_true rfl, Nat.le_of_ble_eq_true rfl⟩

theorem EncodedLength.subs_4 (erd : Reg3) : EncodedLength.Statement (.subs_4 erd) :=
  ⟨Nat.le_of_ble_eq_true rfl, Nat.le_of_ble_eq_true rfl⟩

theorem EncodedLength.subx_imm_rd (imm : Byte) (rd : Reg4) : EncodedLength.Statement (.subx_imm_rd imm rd) :=
  ⟨Nat.le_of_ble_eq_true rfl, Nat.le_of_ble_eq_true rfl⟩

theorem EncodedLength.subx_rs_rd (rs : Reg4) (rd : Reg4) : EncodedLength.Statement (.subx_rs_rd rs rd) :=
  ⟨Nat.le_of_ble_eq_true rfl, Nat.le_of_ble_eq_true rfl⟩

theorem EncodedLength.cmpB_imm_rd (imm : Byte) (rd : Reg4) : EncodedLength.Statement (.cmpB_imm_rd imm rd) :=
  ⟨Nat.le_of_ble_eq_true rfl, Nat.le_of_ble_eq_true rfl⟩

theorem EncodedLength.cmpB_rs_rd (rs : Reg4) (rd : Reg4) : EncodedLength.Statement (.cmpB_rs_rd rs rd) :=
  ⟨Nat.le_of_ble_eq_true rfl, Nat.le_of_ble_eq_true rfl⟩

theorem EncodedLength.cmpW_imm_rd (imm : Word) (rd : Reg4) : EncodedLength.Statement (.cmpW_imm_rd imm rd) :=
  ⟨Nat.le_of_ble_eq_true rfl, Nat.le_of_ble_eq_true rfl⟩

theorem EncodedLength.cmpW_rs_rd (rs : Reg4) (rd : Reg4) : EncodedLength.Statement (.cmpW_rs_rd rs rd) :=
  ⟨Nat.le_of_ble_eq_true rfl, Nat.le_of_ble_eq_true rfl⟩

theorem EncodedLength.cmpL_imm_erd (imm : Long) (erd : Reg3) : EncodedLength.Statement (.cmpL_imm_erd imm erd) :=
  ⟨Nat.le_of_ble_eq_true rfl, Nat.le_of_ble_eq_true rfl⟩

theorem EncodedLength.cmpL_ers_erd (ers : Reg3) (erd : Reg3) : EncodedLength.Statement (.cmpL_ers_erd ers erd) :=
  ⟨Nat.le_of_ble_eq_true rfl, Nat.le_of_ble_eq_true rfl⟩

theorem EncodedLength.negB (rd : Reg4) : EncodedLength.Statement (.negB rd) :=
  ⟨Nat.le_of_ble_eq_true rfl, Nat.le_of_ble_eq_true rfl⟩

theorem EncodedLength.negW (rd : Reg4) : EncodedLength.Statement (.negW rd) :=
  ⟨Nat.le_of_ble_eq_true rfl, Nat.le_of_ble_eq_true rfl⟩

theorem EncodedLength.negL (erd : Reg3) : EncodedLength.Statement (.negL erd) :=
  ⟨Nat.le_of_ble_eq_true rfl, Nat.le_of_ble_eq_true rfl⟩

theorem EncodedLength.daa (rd : Reg4) : EncodedLength.Statement (.daa rd) :=
  ⟨Nat.le_of_ble_eq_true rfl, Nat.le_of_ble_eq_true rfl⟩

theorem EncodedLength.das (rd : Reg4) : EncodedLength.Statement (.das rd) :=
  ⟨Nat.le_of_ble_eq_true rfl, Nat.le_of_ble_eq_true rfl⟩

theorem EncodedLength.mulxuB_rs_rd (rs : Reg4) (rd : Reg4) : EncodedLength.Statement (.mulxuB_rs_rd rs rd) :=
  ⟨Nat.le_of_ble_eq_true rfl, Nat.le_of_ble_eq_true rfl⟩

theorem EncodedLength.mulxuW_rs_erd (rs : Reg4) (erd : Reg3) : EncodedLength.Statement (.mulxuW_rs_erd rs erd) :=
  ⟨Nat.le_of_ble_eq_true rfl, Nat.le_of_ble_eq_true rfl⟩

theorem EncodedLength.divxuB_rs_rd (rs : Reg4) (rd : Reg4) : EncodedLength.Statement (.divxuB_rs_rd rs rd) :=
  ⟨Nat.le_of_ble_eq_true rfl, Nat.le_of_ble_eq_true rfl⟩

theorem EncodedLength.divxuW_rs_erd (rs : Reg4) (erd : Reg3) : EncodedLength.Statement (.divxuW_rs_erd rs erd) :=
  ⟨Nat.le_of_ble_eq_true rfl, Nat.le_of_ble_eq_true rfl⟩

theorem EncodedLength.divxsB_rs_rd (rs : Reg4) (rd : Reg4) : EncodedLength.Statement (.divxsB_rs_rd rs rd) :=
  ⟨Nat.le_of_ble_eq_true rfl, Nat.le_of_ble_eq_true rfl⟩

theorem EncodedLength.divxsW_rs_erd (rs : Reg4) (erd : Reg3) : EncodedLength.Statement (.divxsW_rs_erd rs erd) :=
  ⟨Nat.le_of_ble_eq_true rfl, Nat.le_of_ble_eq_true rfl⟩

theorem EncodedLength.mulxsB_rs_rd (rs : Reg4) (rd : Reg4) : EncodedLength.Statement (.mulxsB_rs_rd rs rd) :=
  ⟨Nat.le_of_ble_eq_true rfl, Nat.le_of_ble_eq_true rfl⟩

theorem EncodedLength.mulxsW_rs_erd (rs : Reg4) (erd : Reg3) : EncodedLength.Statement (.mulxsW_rs_erd rs erd) :=
  ⟨Nat.le_of_ble_eq_true rfl, Nat.le_of_ble_eq_true rfl⟩

theorem EncodedLength.incB (rd : Reg4) : EncodedLength.Statement (.incB rd) :=
  ⟨Nat.le_of_ble_eq_true rfl, Nat.le_of_ble_eq_true rfl⟩

theorem EncodedLength.incW_1 (rd : Reg4) : EncodedLength.Statement (.incW_1 rd) :=
  ⟨Nat.le_of_ble_eq_true rfl, Nat.le_of_ble_eq_true rfl⟩

theorem EncodedLength.incW_2 (rd : Reg4) : EncodedLength.Statement (.incW_2 rd) :=
  ⟨Nat.le_of_ble_eq_true rfl, Nat.le_of_ble_eq_true rfl⟩

theorem EncodedLength.incL_1 (erd : Reg3) : EncodedLength.Statement (.incL_1 erd) :=
  ⟨Nat.le_of_ble_eq_true rfl, Nat.le_of_ble_eq_true rfl⟩

theorem EncodedLength.incL_2 (erd : Reg3) : EncodedLength.Statement (.incL_2 erd) :=
  ⟨Nat.le_of_ble_eq_true rfl, Nat.le_of_ble_eq_true rfl⟩

theorem EncodedLength.decB (rd : Reg4) : EncodedLength.Statement (.decB rd) :=
  ⟨Nat.le_of_ble_eq_true rfl, Nat.le_of_ble_eq_true rfl⟩

theorem EncodedLength.decW_1 (rd : Reg4) : EncodedLength.Statement (.decW_1 rd) :=
  ⟨Nat.le_of_ble_eq_true rfl, Nat.le_of_ble_eq_true rfl⟩

theorem EncodedLength.decW_2 (rd : Reg4) : EncodedLength.Statement (.decW_2 rd) :=
  ⟨Nat.le_of_ble_eq_true rfl, Nat.le_of_ble_eq_true rfl⟩

theorem EncodedLength.decL_1 (erd : Reg3) : EncodedLength.Statement (.decL_1 erd) :=
  ⟨Nat.le_of_ble_eq_true rfl, Nat.le_of_ble_eq_true rfl⟩

theorem EncodedLength.decL_2 (erd : Reg3) : EncodedLength.Statement (.decL_2 erd) :=
  ⟨Nat.le_of_ble_eq_true rfl, Nat.le_of_ble_eq_true rfl⟩

theorem EncodedLength.extuW (rd : Reg4) : EncodedLength.Statement (.extuW rd) :=
  ⟨Nat.le_of_ble_eq_true rfl, Nat.le_of_ble_eq_true rfl⟩

theorem EncodedLength.extuL (erd : Reg3) : EncodedLength.Statement (.extuL erd) :=
  ⟨Nat.le_of_ble_eq_true rfl, Nat.le_of_ble_eq_true rfl⟩

theorem EncodedLength.extsW (rd : Reg4) : EncodedLength.Statement (.extsW rd) :=
  ⟨Nat.le_of_ble_eq_true rfl, Nat.le_of_ble_eq_true rfl⟩

theorem EncodedLength.extsL (erd : Reg3) : EncodedLength.Statement (.extsL erd) :=
  ⟨Nat.le_of_ble_eq_true rfl, Nat.le_of_ble_eq_true rfl⟩

theorem EncodedLength.andB_imm_rd (imm : Byte) (rd : Reg4) : EncodedLength.Statement (.andB_imm_rd imm rd) :=
  ⟨Nat.le_of_ble_eq_true rfl, Nat.le_of_ble_eq_true rfl⟩

theorem EncodedLength.andB_rs_rd (rs : Reg4) (rd : Reg4) : EncodedLength.Statement (.andB_rs_rd rs rd) :=
  ⟨Nat.le_of_ble_eq_true rfl, Nat.le_of_ble_eq_true rfl⟩

theorem EncodedLength.andW_imm_rd (imm : Word) (rd : Reg4) : EncodedLength.Statement (.andW_imm_rd imm rd) :=
  ⟨Nat.le_of_ble_eq_true rfl, Nat.le_of_ble_eq_true rfl⟩

theorem EncodedLength.andW_rs_rd (rs : Reg4) (rd : Reg4) : EncodedLength.Statement (.andW_rs_rd rs rd) :=
  ⟨Nat.le_of_ble_eq_true rfl, Nat.le_of_ble_eq_true rfl⟩

theorem EncodedLength.andL_imm_erd (imm : Long) (erd : Reg3) : EncodedLength.Statement (.andL_imm_erd imm erd) :=
  ⟨Nat.le_of_ble_eq_true rfl, Nat.le_of_ble_eq_true rfl⟩

theorem EncodedLength.andL_ers_erd (ers : Reg3) (erd : Reg3) : EncodedLength.Statement (.andL_ers_erd ers erd) :=
  ⟨Nat.le_of_ble_eq_true rfl, Nat.le_of_ble_eq_true rfl⟩

theorem EncodedLength.orB_imm_rd (imm : Byte) (rd : Reg4) : EncodedLength.Statement (.orB_imm_rd imm rd) :=
  ⟨Nat.le_of_ble_eq_true rfl, Nat.le_of_ble_eq_true rfl⟩

theorem EncodedLength.orB_rs_rd (rs : Reg4) (rd : Reg4) : EncodedLength.Statement (.orB_rs_rd rs rd) :=
  ⟨Nat.le_of_ble_eq_true rfl, Nat.le_of_ble_eq_true rfl⟩

theorem EncodedLength.orW_imm_rd (imm : Word) (rd : Reg4) : EncodedLength.Statement (.orW_imm_rd imm rd) :=
  ⟨Nat.le_of_ble_eq_true rfl, Nat.le_of_ble_eq_true rfl⟩

theorem EncodedLength.orW_rs_rd (rs : Reg4) (rd : Reg4) : EncodedLength.Statement (.orW_rs_rd rs rd) :=
  ⟨Nat.le_of_ble_eq_true rfl, Nat.le_of_ble_eq_true rfl⟩

theorem EncodedLength.orL_imm_erd (imm : Long) (erd : Reg3) : EncodedLength.Statement (.orL_imm_erd imm erd) :=
  ⟨Nat.le_of_ble_eq_true rfl, Nat.le_of_ble_eq_true rfl⟩

theorem EncodedLength.orL_ers_erd (ers : Reg3) (erd : Reg3) : EncodedLength.Statement (.orL_ers_erd ers erd) :=
  ⟨Nat.le_of_ble_eq_true rfl, Nat.le_of_ble_eq_true rfl⟩

theorem EncodedLength.xorB_imm_rd (imm : Byte) (rd : Reg4) : EncodedLength.Statement (.xorB_imm_rd imm rd) :=
  ⟨Nat.le_of_ble_eq_true rfl, Nat.le_of_ble_eq_true rfl⟩

theorem EncodedLength.xorB_rs_rd (rs : Reg4) (rd : Reg4) : EncodedLength.Statement (.xorB_rs_rd rs rd) :=
  ⟨Nat.le_of_ble_eq_true rfl, Nat.le_of_ble_eq_true rfl⟩

theorem EncodedLength.xorW_imm_rd (imm : Word) (rd : Reg4) : EncodedLength.Statement (.xorW_imm_rd imm rd) :=
  ⟨Nat.le_of_ble_eq_true rfl, Nat.le_of_ble_eq_true rfl⟩

theorem EncodedLength.xorW_rs_rd (rs : Reg4) (rd : Reg4) : EncodedLength.Statement (.xorW_rs_rd rs rd) :=
  ⟨Nat.le_of_ble_eq_true rfl, Nat.le_of_ble_eq_true rfl⟩

theorem EncodedLength.xorL_imm_erd (imm : Long) (erd : Reg3) : EncodedLength.Statement (.xorL_imm_erd imm erd) :=
  ⟨Nat.le_of_ble_eq_true rfl, Nat.le_of_ble_eq_true rfl⟩

theorem EncodedLength.xorL_ers_erd (ers : Reg3) (erd : Reg3) : EncodedLength.Statement (.xorL_ers_erd ers erd) :=
  ⟨Nat.le_of_ble_eq_true rfl, Nat.le_of_ble_eq_true rfl⟩

theorem EncodedLength.notB (rd : Reg4) : EncodedLength.Statement (.notB rd) :=
  ⟨Nat.le_of_ble_eq_true rfl, Nat.le_of_ble_eq_true rfl⟩

theorem EncodedLength.notW (rd : Reg4) : EncodedLength.Statement (.notW rd) :=
  ⟨Nat.le_of_ble_eq_true rfl, Nat.le_of_ble_eq_true rfl⟩

theorem EncodedLength.notL (erd : Reg3) : EncodedLength.Statement (.notL erd) :=
  ⟨Nat.le_of_ble_eq_true rfl, Nat.le_of_ble_eq_true rfl⟩

theorem EncodedLength.shalB (rd : Reg4) : EncodedLength.Statement (.shalB rd) :=
  ⟨Nat.le_of_ble_eq_true rfl, Nat.le_of_ble_eq_true rfl⟩

theorem EncodedLength.shalW (rd : Reg4) : EncodedLength.Statement (.shalW rd) :=
  ⟨Nat.le_of_ble_eq_true rfl, Nat.le_of_ble_eq_true rfl⟩

theorem EncodedLength.shalL (erd : Reg3) : EncodedLength.Statement (.shalL erd) :=
  ⟨Nat.le_of_ble_eq_true rfl, Nat.le_of_ble_eq_true rfl⟩

theorem EncodedLength.sharB (rd : Reg4) : EncodedLength.Statement (.sharB rd) :=
  ⟨Nat.le_of_ble_eq_true rfl, Nat.le_of_ble_eq_true rfl⟩

theorem EncodedLength.sharW (rd : Reg4) : EncodedLength.Statement (.sharW rd) :=
  ⟨Nat.le_of_ble_eq_true rfl, Nat.le_of_ble_eq_true rfl⟩

theorem EncodedLength.sharL (erd : Reg3) : EncodedLength.Statement (.sharL erd) :=
  ⟨Nat.le_of_ble_eq_true rfl, Nat.le_of_ble_eq_true rfl⟩

theorem EncodedLength.shllB (rd : Reg4) : EncodedLength.Statement (.shllB rd) :=
  ⟨Nat.le_of_ble_eq_true rfl, Nat.le_of_ble_eq_true rfl⟩

theorem EncodedLength.shllW (rd : Reg4) : EncodedLength.Statement (.shllW rd) :=
  ⟨Nat.le_of_ble_eq_true rfl, Nat.le_of_ble_eq_true rfl⟩

theorem EncodedLength.shllL (erd : Reg3) : EncodedLength.Statement (.shllL erd) :=
  ⟨Nat.le_of_ble_eq_true rfl, Nat.le_of_ble_eq_true rfl⟩

theorem EncodedLength.shlrB (rd : Reg4) : EncodedLength.Statement (.shlrB rd) :=
  ⟨Nat.le_of_ble_eq_true rfl, Nat.le_of_ble_eq_true rfl⟩

theorem EncodedLength.shlrW (rd : Reg4) : EncodedLength.Statement (.shlrW rd) :=
  ⟨Nat.le_of_ble_eq_true rfl, Nat.le_of_ble_eq_true rfl⟩

theorem EncodedLength.shlrL (erd : Reg3) : EncodedLength.Statement (.shlrL erd) :=
  ⟨Nat.le_of_ble_eq_true rfl, Nat.le_of_ble_eq_true rfl⟩

theorem EncodedLength.rotlB (rd : Reg4) : EncodedLength.Statement (.rotlB rd) :=
  ⟨Nat.le_of_ble_eq_true rfl, Nat.le_of_ble_eq_true rfl⟩

theorem EncodedLength.rotlW (rd : Reg4) : EncodedLength.Statement (.rotlW rd) :=
  ⟨Nat.le_of_ble_eq_true rfl, Nat.le_of_ble_eq_true rfl⟩

theorem EncodedLength.rotlL (erd : Reg3) : EncodedLength.Statement (.rotlL erd) :=
  ⟨Nat.le_of_ble_eq_true rfl, Nat.le_of_ble_eq_true rfl⟩

theorem EncodedLength.rotrB (rd : Reg4) : EncodedLength.Statement (.rotrB rd) :=
  ⟨Nat.le_of_ble_eq_true rfl, Nat.le_of_ble_eq_true rfl⟩

theorem EncodedLength.rotrW (rd : Reg4) : EncodedLength.Statement (.rotrW rd) :=
  ⟨Nat.le_of_ble_eq_true rfl, Nat.le_of_ble_eq_true rfl⟩

theorem EncodedLength.rotrL (erd : Reg3) : EncodedLength.Statement (.rotrL erd) :=
  ⟨Nat.le_of_ble_eq_true rfl, Nat.le_of_ble_eq_true rfl⟩

theorem EncodedLength.rotxlB (rd : Reg4) : EncodedLength.Statement (.rotxlB rd) :=
  ⟨Nat.le_of_ble_eq_true rfl, Nat.le_of_ble_eq_true rfl⟩

theorem EncodedLength.rotxlW (rd : Reg4) : EncodedLength.Statement (.rotxlW rd) :=
  ⟨Nat.le_of_ble_eq_true rfl, Nat.le_of_ble_eq_true rfl⟩

theorem EncodedLength.rotxlL (erd : Reg3) : EncodedLength.Statement (.rotxlL erd) :=
  ⟨Nat.le_of_ble_eq_true rfl, Nat.le_of_ble_eq_true rfl⟩

theorem EncodedLength.rotxrB (rd : Reg4) : EncodedLength.Statement (.rotxrB rd) :=
  ⟨Nat.le_of_ble_eq_true rfl, Nat.le_of_ble_eq_true rfl⟩

theorem EncodedLength.rotxrW (rd : Reg4) : EncodedLength.Statement (.rotxrW rd) :=
  ⟨Nat.le_of_ble_eq_true rfl, Nat.le_of_ble_eq_true rfl⟩

theorem EncodedLength.rotxrL (erd : Reg3) : EncodedLength.Statement (.rotxrL erd) :=
  ⟨Nat.le_of_ble_eq_true rfl, Nat.le_of_ble_eq_true rfl⟩

theorem EncodedLength.bset_imm_rd (bit : BitVec 3) (rd : Reg4) : EncodedLength.Statement (.bset_imm_rd bit rd) :=
  ⟨Nat.le_of_ble_eq_true rfl, Nat.le_of_ble_eq_true rfl⟩

theorem EncodedLength.bset_imm_ind (bit : BitVec 3) (erd : Reg3) : EncodedLength.Statement (.bset_imm_ind bit erd) :=
  ⟨Nat.le_of_ble_eq_true rfl, Nat.le_of_ble_eq_true rfl⟩

theorem EncodedLength.bset_imm_aa8 (bit : BitVec 3) (aa : Byte) : EncodedLength.Statement (.bset_imm_aa8 bit aa) :=
  ⟨Nat.le_of_ble_eq_true rfl, Nat.le_of_ble_eq_true rfl⟩

theorem EncodedLength.bset_rn_rd (rn : Reg4) (rd : Reg4) : EncodedLength.Statement (.bset_rn_rd rn rd) :=
  ⟨Nat.le_of_ble_eq_true rfl, Nat.le_of_ble_eq_true rfl⟩

theorem EncodedLength.bset_rn_ind (rn : Reg4) (erd : Reg3) : EncodedLength.Statement (.bset_rn_ind rn erd) :=
  ⟨Nat.le_of_ble_eq_true rfl, Nat.le_of_ble_eq_true rfl⟩

theorem EncodedLength.bset_rn_aa8 (rn : Reg4) (aa : Byte) : EncodedLength.Statement (.bset_rn_aa8 rn aa) :=
  ⟨Nat.le_of_ble_eq_true rfl, Nat.le_of_ble_eq_true rfl⟩

theorem EncodedLength.bclr_imm_rd (bit : BitVec 3) (rd : Reg4) : EncodedLength.Statement (.bclr_imm_rd bit rd) :=
  ⟨Nat.le_of_ble_eq_true rfl, Nat.le_of_ble_eq_true rfl⟩

theorem EncodedLength.bclr_imm_ind (bit : BitVec 3) (erd : Reg3) : EncodedLength.Statement (.bclr_imm_ind bit erd) :=
  ⟨Nat.le_of_ble_eq_true rfl, Nat.le_of_ble_eq_true rfl⟩

theorem EncodedLength.bclr_imm_aa8 (bit : BitVec 3) (aa : Byte) : EncodedLength.Statement (.bclr_imm_aa8 bit aa) :=
  ⟨Nat.le_of_ble_eq_true rfl, Nat.le_of_ble_eq_true rfl⟩

theorem EncodedLength.bclr_rn_rd (rn : Reg4) (rd : Reg4) : EncodedLength.Statement (.bclr_rn_rd rn rd) :=
  ⟨Nat.le_of_ble_eq_true rfl, Nat.le_of_ble_eq_true rfl⟩

theorem EncodedLength.bclr_rn_ind (rn : Reg4) (erd : Reg3) : EncodedLength.Statement (.bclr_rn_ind rn erd) :=
  ⟨Nat.le_of_ble_eq_true rfl, Nat.le_of_ble_eq_true rfl⟩

theorem EncodedLength.bclr_rn_aa8 (rn : Reg4) (aa : Byte) : EncodedLength.Statement (.bclr_rn_aa8 rn aa) :=
  ⟨Nat.le_of_ble_eq_true rfl, Nat.le_of_ble_eq_true rfl⟩

theorem EncodedLength.bnot_imm_rd (bit : BitVec 3) (rd : Reg4) : EncodedLength.Statement (.bnot_imm_rd bit rd) :=
  ⟨Nat.le_of_ble_eq_true rfl, Nat.le_of_ble_eq_true rfl⟩

theorem EncodedLength.bnot_imm_ind (bit : BitVec 3) (erd : Reg3) : EncodedLength.Statement (.bnot_imm_ind bit erd) :=
  ⟨Nat.le_of_ble_eq_true rfl, Nat.le_of_ble_eq_true rfl⟩

theorem EncodedLength.bnot_imm_aa8 (bit : BitVec 3) (aa : Byte) : EncodedLength.Statement (.bnot_imm_aa8 bit aa) :=
  ⟨Nat.le_of_ble_eq_true rfl, Nat.le_of_ble_eq_true rfl⟩

theorem EncodedLength.bnot_rn_rd (rn : Reg4) (rd : Reg4) : EncodedLength.Statement (.bnot_rn_rd rn rd) :=
  ⟨Nat.le_of_ble_eq_true rfl, Nat.le_of_ble_eq_true rfl⟩

theorem EncodedLength.bnot_rn_ind (rn : Reg4) (erd : Reg3) : EncodedLength.Statement (.bnot_rn_ind rn erd) :=
  ⟨Nat.le_of_ble_eq_true rfl, Nat.le_of_ble_eq_true rfl⟩

theorem EncodedLength.bnot_rn_aa8 (rn : Reg4) (aa : Byte) : EncodedLength.Statement (.bnot_rn_aa8 rn aa) :=
  ⟨Nat.le_of_ble_eq_true rfl, Nat.le_of_ble_eq_true rfl⟩

theorem EncodedLength.btst_imm_rd (bit : BitVec 3) (rd : Reg4) : EncodedLength.Statement (.btst_imm_rd bit rd) :=
  ⟨Nat.le_of_ble_eq_true rfl, Nat.le_of_ble_eq_true rfl⟩

theorem EncodedLength.btst_imm_ind (bit : BitVec 3) (erd : Reg3) : EncodedLength.Statement (.btst_imm_ind bit erd) :=
  ⟨Nat.le_of_ble_eq_true rfl, Nat.le_of_ble_eq_true rfl⟩

theorem EncodedLength.btst_imm_aa8 (bit : BitVec 3) (aa : Byte) : EncodedLength.Statement (.btst_imm_aa8 bit aa) :=
  ⟨Nat.le_of_ble_eq_true rfl, Nat.le_of_ble_eq_true rfl⟩

theorem EncodedLength.btst_rn_rd (rn : Reg4) (rd : Reg4) : EncodedLength.Statement (.btst_rn_rd rn rd) :=
  ⟨Nat.le_of_ble_eq_true rfl, Nat.le_of_ble_eq_true rfl⟩

theorem EncodedLength.btst_rn_ind (rn : Reg4) (erd : Reg3) : EncodedLength.Statement (.btst_rn_ind rn erd) :=
  ⟨Nat.le_of_ble_eq_true rfl, Nat.le_of_ble_eq_true rfl⟩

theorem EncodedLength.btst_rn_aa8 (rn : Reg4) (aa : Byte) : EncodedLength.Statement (.btst_rn_aa8 rn aa) :=
  ⟨Nat.le_of_ble_eq_true rfl, Nat.le_of_ble_eq_true rfl⟩

theorem EncodedLength.band_imm_rd (bit : BitVec 3) (rd : Reg4) : EncodedLength.Statement (.band_imm_rd bit rd) :=
  ⟨Nat.le_of_ble_eq_true rfl, Nat.le_of_ble_eq_true rfl⟩

theorem EncodedLength.band_imm_ind (bit : BitVec 3) (erd : Reg3) : EncodedLength.Statement (.band_imm_ind bit erd) :=
  ⟨Nat.le_of_ble_eq_true rfl, Nat.le_of_ble_eq_true rfl⟩

theorem EncodedLength.band_imm_aa8 (bit : BitVec 3) (aa : Byte) : EncodedLength.Statement (.band_imm_aa8 bit aa) :=
  ⟨Nat.le_of_ble_eq_true rfl, Nat.le_of_ble_eq_true rfl⟩

theorem EncodedLength.biand_imm_rd (bit : BitVec 3) (rd : Reg4) : EncodedLength.Statement (.biand_imm_rd bit rd) :=
  ⟨Nat.le_of_ble_eq_true rfl, Nat.le_of_ble_eq_true rfl⟩

theorem EncodedLength.biand_imm_ind (bit : BitVec 3) (erd : Reg3) : EncodedLength.Statement (.biand_imm_ind bit erd) :=
  ⟨Nat.le_of_ble_eq_true rfl, Nat.le_of_ble_eq_true rfl⟩

theorem EncodedLength.biand_imm_aa8 (bit : BitVec 3) (aa : Byte) : EncodedLength.Statement (.biand_imm_aa8 bit aa) :=
  ⟨Nat.le_of_ble_eq_true rfl, Nat.le_of_ble_eq_true rfl⟩

theorem EncodedLength.bor_imm_rd (bit : BitVec 3) (rd : Reg4) : EncodedLength.Statement (.bor_imm_rd bit rd) :=
  ⟨Nat.le_of_ble_eq_true rfl, Nat.le_of_ble_eq_true rfl⟩

theorem EncodedLength.bor_imm_ind (bit : BitVec 3) (erd : Reg3) : EncodedLength.Statement (.bor_imm_ind bit erd) :=
  ⟨Nat.le_of_ble_eq_true rfl, Nat.le_of_ble_eq_true rfl⟩

theorem EncodedLength.bor_imm_aa8 (bit : BitVec 3) (aa : Byte) : EncodedLength.Statement (.bor_imm_aa8 bit aa) :=
  ⟨Nat.le_of_ble_eq_true rfl, Nat.le_of_ble_eq_true rfl⟩

theorem EncodedLength.bior_imm_rd (bit : BitVec 3) (rd : Reg4) : EncodedLength.Statement (.bior_imm_rd bit rd) :=
  ⟨Nat.le_of_ble_eq_true rfl, Nat.le_of_ble_eq_true rfl⟩

theorem EncodedLength.bior_imm_ind (bit : BitVec 3) (erd : Reg3) : EncodedLength.Statement (.bior_imm_ind bit erd) :=
  ⟨Nat.le_of_ble_eq_true rfl, Nat.le_of_ble_eq_true rfl⟩

theorem EncodedLength.bior_imm_aa8 (bit : BitVec 3) (aa : Byte) : EncodedLength.Statement (.bior_imm_aa8 bit aa) :=
  ⟨Nat.le_of_ble_eq_true rfl, Nat.le_of_ble_eq_true rfl⟩

theorem EncodedLength.bxor_imm_rd (bit : BitVec 3) (rd : Reg4) : EncodedLength.Statement (.bxor_imm_rd bit rd) :=
  ⟨Nat.le_of_ble_eq_true rfl, Nat.le_of_ble_eq_true rfl⟩

theorem EncodedLength.bxor_imm_ind (bit : BitVec 3) (erd : Reg3) : EncodedLength.Statement (.bxor_imm_ind bit erd) :=
  ⟨Nat.le_of_ble_eq_true rfl, Nat.le_of_ble_eq_true rfl⟩

theorem EncodedLength.bxor_imm_aa8 (bit : BitVec 3) (aa : Byte) : EncodedLength.Statement (.bxor_imm_aa8 bit aa) :=
  ⟨Nat.le_of_ble_eq_true rfl, Nat.le_of_ble_eq_true rfl⟩

theorem EncodedLength.bixor_imm_rd (bit : BitVec 3) (rd : Reg4) : EncodedLength.Statement (.bixor_imm_rd bit rd) :=
  ⟨Nat.le_of_ble_eq_true rfl, Nat.le_of_ble_eq_true rfl⟩

theorem EncodedLength.bixor_imm_ind (bit : BitVec 3) (erd : Reg3) : EncodedLength.Statement (.bixor_imm_ind bit erd) :=
  ⟨Nat.le_of_ble_eq_true rfl, Nat.le_of_ble_eq_true rfl⟩

theorem EncodedLength.bixor_imm_aa8 (bit : BitVec 3) (aa : Byte) : EncodedLength.Statement (.bixor_imm_aa8 bit aa) :=
  ⟨Nat.le_of_ble_eq_true rfl, Nat.le_of_ble_eq_true rfl⟩

theorem EncodedLength.bld_imm_rd (bit : BitVec 3) (rd : Reg4) : EncodedLength.Statement (.bld_imm_rd bit rd) :=
  ⟨Nat.le_of_ble_eq_true rfl, Nat.le_of_ble_eq_true rfl⟩

theorem EncodedLength.bld_imm_ind (bit : BitVec 3) (erd : Reg3) : EncodedLength.Statement (.bld_imm_ind bit erd) :=
  ⟨Nat.le_of_ble_eq_true rfl, Nat.le_of_ble_eq_true rfl⟩

theorem EncodedLength.bld_imm_aa8 (bit : BitVec 3) (aa : Byte) : EncodedLength.Statement (.bld_imm_aa8 bit aa) :=
  ⟨Nat.le_of_ble_eq_true rfl, Nat.le_of_ble_eq_true rfl⟩

theorem EncodedLength.bild_imm_rd (bit : BitVec 3) (rd : Reg4) : EncodedLength.Statement (.bild_imm_rd bit rd) :=
  ⟨Nat.le_of_ble_eq_true rfl, Nat.le_of_ble_eq_true rfl⟩

theorem EncodedLength.bild_imm_ind (bit : BitVec 3) (erd : Reg3) : EncodedLength.Statement (.bild_imm_ind bit erd) :=
  ⟨Nat.le_of_ble_eq_true rfl, Nat.le_of_ble_eq_true rfl⟩

theorem EncodedLength.bild_imm_aa8 (bit : BitVec 3) (aa : Byte) : EncodedLength.Statement (.bild_imm_aa8 bit aa) :=
  ⟨Nat.le_of_ble_eq_true rfl, Nat.le_of_ble_eq_true rfl⟩

theorem EncodedLength.bst_imm_rd (bit : BitVec 3) (rd : Reg4) : EncodedLength.Statement (.bst_imm_rd bit rd) :=
  ⟨Nat.le_of_ble_eq_true rfl, Nat.le_of_ble_eq_true rfl⟩

theorem EncodedLength.bst_imm_ind (bit : BitVec 3) (erd : Reg3) : EncodedLength.Statement (.bst_imm_ind bit erd) :=
  ⟨Nat.le_of_ble_eq_true rfl, Nat.le_of_ble_eq_true rfl⟩

theorem EncodedLength.bst_imm_aa8 (bit : BitVec 3) (aa : Byte) : EncodedLength.Statement (.bst_imm_aa8 bit aa) :=
  ⟨Nat.le_of_ble_eq_true rfl, Nat.le_of_ble_eq_true rfl⟩

theorem EncodedLength.bist_imm_rd (bit : BitVec 3) (rd : Reg4) : EncodedLength.Statement (.bist_imm_rd bit rd) :=
  ⟨Nat.le_of_ble_eq_true rfl, Nat.le_of_ble_eq_true rfl⟩

theorem EncodedLength.bist_imm_ind (bit : BitVec 3) (erd : Reg3) : EncodedLength.Statement (.bist_imm_ind bit erd) :=
  ⟨Nat.le_of_ble_eq_true rfl, Nat.le_of_ble_eq_true rfl⟩

theorem EncodedLength.bist_imm_aa8 (bit : BitVec 3) (aa : Byte) : EncodedLength.Statement (.bist_imm_aa8 bit aa) :=
  ⟨Nat.le_of_ble_eq_true rfl, Nat.le_of_ble_eq_true rfl⟩

theorem EncodedLength.bra_d8 (disp : Byte) : EncodedLength.Statement (.bra_d8 disp) :=
  ⟨Nat.le_of_ble_eq_true rfl, Nat.le_of_ble_eq_true rfl⟩

theorem EncodedLength.brn_d8 (disp : Byte) : EncodedLength.Statement (.brn_d8 disp) :=
  ⟨Nat.le_of_ble_eq_true rfl, Nat.le_of_ble_eq_true rfl⟩

theorem EncodedLength.bhi_d8 (disp : Byte) : EncodedLength.Statement (.bhi_d8 disp) :=
  ⟨Nat.le_of_ble_eq_true rfl, Nat.le_of_ble_eq_true rfl⟩

theorem EncodedLength.bls_d8 (disp : Byte) : EncodedLength.Statement (.bls_d8 disp) :=
  ⟨Nat.le_of_ble_eq_true rfl, Nat.le_of_ble_eq_true rfl⟩

theorem EncodedLength.bcc_d8 (disp : Byte) : EncodedLength.Statement (.bcc_d8 disp) :=
  ⟨Nat.le_of_ble_eq_true rfl, Nat.le_of_ble_eq_true rfl⟩

theorem EncodedLength.bcs_d8 (disp : Byte) : EncodedLength.Statement (.bcs_d8 disp) :=
  ⟨Nat.le_of_ble_eq_true rfl, Nat.le_of_ble_eq_true rfl⟩

theorem EncodedLength.bne_d8 (disp : Byte) : EncodedLength.Statement (.bne_d8 disp) :=
  ⟨Nat.le_of_ble_eq_true rfl, Nat.le_of_ble_eq_true rfl⟩

theorem EncodedLength.beq_d8 (disp : Byte) : EncodedLength.Statement (.beq_d8 disp) :=
  ⟨Nat.le_of_ble_eq_true rfl, Nat.le_of_ble_eq_true rfl⟩

theorem EncodedLength.bvc_d8 (disp : Byte) : EncodedLength.Statement (.bvc_d8 disp) :=
  ⟨Nat.le_of_ble_eq_true rfl, Nat.le_of_ble_eq_true rfl⟩

theorem EncodedLength.bvs_d8 (disp : Byte) : EncodedLength.Statement (.bvs_d8 disp) :=
  ⟨Nat.le_of_ble_eq_true rfl, Nat.le_of_ble_eq_true rfl⟩

theorem EncodedLength.bpl_d8 (disp : Byte) : EncodedLength.Statement (.bpl_d8 disp) :=
  ⟨Nat.le_of_ble_eq_true rfl, Nat.le_of_ble_eq_true rfl⟩

theorem EncodedLength.bmi_d8 (disp : Byte) : EncodedLength.Statement (.bmi_d8 disp) :=
  ⟨Nat.le_of_ble_eq_true rfl, Nat.le_of_ble_eq_true rfl⟩

theorem EncodedLength.bge_d8 (disp : Byte) : EncodedLength.Statement (.bge_d8 disp) :=
  ⟨Nat.le_of_ble_eq_true rfl, Nat.le_of_ble_eq_true rfl⟩

theorem EncodedLength.blt_d8 (disp : Byte) : EncodedLength.Statement (.blt_d8 disp) :=
  ⟨Nat.le_of_ble_eq_true rfl, Nat.le_of_ble_eq_true rfl⟩

theorem EncodedLength.bgt_d8 (disp : Byte) : EncodedLength.Statement (.bgt_d8 disp) :=
  ⟨Nat.le_of_ble_eq_true rfl, Nat.le_of_ble_eq_true rfl⟩

theorem EncodedLength.ble_d8 (disp : Byte) : EncodedLength.Statement (.ble_d8 disp) :=
  ⟨Nat.le_of_ble_eq_true rfl, Nat.le_of_ble_eq_true rfl⟩

theorem EncodedLength.bra_d16 (disp : Word) : EncodedLength.Statement (.bra_d16 disp) :=
  ⟨Nat.le_of_ble_eq_true rfl, Nat.le_of_ble_eq_true rfl⟩

theorem EncodedLength.brn_d16 (disp : Word) : EncodedLength.Statement (.brn_d16 disp) :=
  ⟨Nat.le_of_ble_eq_true rfl, Nat.le_of_ble_eq_true rfl⟩

theorem EncodedLength.bhi_d16 (disp : Word) : EncodedLength.Statement (.bhi_d16 disp) :=
  ⟨Nat.le_of_ble_eq_true rfl, Nat.le_of_ble_eq_true rfl⟩

theorem EncodedLength.bls_d16 (disp : Word) : EncodedLength.Statement (.bls_d16 disp) :=
  ⟨Nat.le_of_ble_eq_true rfl, Nat.le_of_ble_eq_true rfl⟩

theorem EncodedLength.bcc_d16 (disp : Word) : EncodedLength.Statement (.bcc_d16 disp) :=
  ⟨Nat.le_of_ble_eq_true rfl, Nat.le_of_ble_eq_true rfl⟩

theorem EncodedLength.bcs_d16 (disp : Word) : EncodedLength.Statement (.bcs_d16 disp) :=
  ⟨Nat.le_of_ble_eq_true rfl, Nat.le_of_ble_eq_true rfl⟩

theorem EncodedLength.bne_d16 (disp : Word) : EncodedLength.Statement (.bne_d16 disp) :=
  ⟨Nat.le_of_ble_eq_true rfl, Nat.le_of_ble_eq_true rfl⟩

theorem EncodedLength.beq_d16 (disp : Word) : EncodedLength.Statement (.beq_d16 disp) :=
  ⟨Nat.le_of_ble_eq_true rfl, Nat.le_of_ble_eq_true rfl⟩

theorem EncodedLength.bvc_d16 (disp : Word) : EncodedLength.Statement (.bvc_d16 disp) :=
  ⟨Nat.le_of_ble_eq_true rfl, Nat.le_of_ble_eq_true rfl⟩

theorem EncodedLength.bvs_d16 (disp : Word) : EncodedLength.Statement (.bvs_d16 disp) :=
  ⟨Nat.le_of_ble_eq_true rfl, Nat.le_of_ble_eq_true rfl⟩

theorem EncodedLength.bpl_d16 (disp : Word) : EncodedLength.Statement (.bpl_d16 disp) :=
  ⟨Nat.le_of_ble_eq_true rfl, Nat.le_of_ble_eq_true rfl⟩

theorem EncodedLength.bmi_d16 (disp : Word) : EncodedLength.Statement (.bmi_d16 disp) :=
  ⟨Nat.le_of_ble_eq_true rfl, Nat.le_of_ble_eq_true rfl⟩

theorem EncodedLength.bge_d16 (disp : Word) : EncodedLength.Statement (.bge_d16 disp) :=
  ⟨Nat.le_of_ble_eq_true rfl, Nat.le_of_ble_eq_true rfl⟩

theorem EncodedLength.blt_d16 (disp : Word) : EncodedLength.Statement (.blt_d16 disp) :=
  ⟨Nat.le_of_ble_eq_true rfl, Nat.le_of_ble_eq_true rfl⟩

theorem EncodedLength.bgt_d16 (disp : Word) : EncodedLength.Statement (.bgt_d16 disp) :=
  ⟨Nat.le_of_ble_eq_true rfl, Nat.le_of_ble_eq_true rfl⟩

theorem EncodedLength.ble_d16 (disp : Word) : EncodedLength.Statement (.ble_d16 disp) :=
  ⟨Nat.le_of_ble_eq_true rfl, Nat.le_of_ble_eq_true rfl⟩

theorem EncodedLength.jmp_ind (ern : Reg3) : EncodedLength.Statement (.jmp_ind ern) :=
  ⟨Nat.le_of_ble_eq_true rfl, Nat.le_of_ble_eq_true rfl⟩

theorem EncodedLength.jmp_aa24 (aa : BitVec 24) : EncodedLength.Statement (.jmp_aa24 aa) :=
  ⟨Nat.le_of_ble_eq_true rfl, Nat.le_of_ble_eq_true rfl⟩

theorem EncodedLength.jmp_memInd (aa : Byte) : EncodedLength.Statement (.jmp_memInd aa) :=
  ⟨Nat.le_of_ble_eq_true rfl, Nat.le_of_ble_eq_true rfl⟩

theorem EncodedLength.jsr_ind (ern : Reg3) : EncodedLength.Statement (.jsr_ind ern) :=
  ⟨Nat.le_of_ble_eq_true rfl, Nat.le_of_ble_eq_true rfl⟩

theorem EncodedLength.jsr_aa24 (aa : BitVec 24) : EncodedLength.Statement (.jsr_aa24 aa) :=
  ⟨Nat.le_of_ble_eq_true rfl, Nat.le_of_ble_eq_true rfl⟩

theorem EncodedLength.jsr_memInd (aa : Byte) : EncodedLength.Statement (.jsr_memInd aa) :=
  ⟨Nat.le_of_ble_eq_true rfl, Nat.le_of_ble_eq_true rfl⟩

theorem EncodedLength.bsr_d8 (disp : Byte) : EncodedLength.Statement (.bsr_d8 disp) :=
  ⟨Nat.le_of_ble_eq_true rfl, Nat.le_of_ble_eq_true rfl⟩

theorem EncodedLength.bsr_d16 (disp : Word) : EncodedLength.Statement (.bsr_d16 disp) :=
  ⟨Nat.le_of_ble_eq_true rfl, Nat.le_of_ble_eq_true rfl⟩

theorem EncodedLength.rts : EncodedLength.Statement .rts :=
  ⟨Nat.le_of_ble_eq_true rfl, Nat.le_of_ble_eq_true rfl⟩

theorem EncodedLength.rte : EncodedLength.Statement .rte :=
  ⟨Nat.le_of_ble_eq_true rfl, Nat.le_of_ble_eq_true rfl⟩

theorem EncodedLength.andc (imm : Byte) : EncodedLength.Statement (.andc imm) :=
  ⟨Nat.le_of_ble_eq_true rfl, Nat.le_of_ble_eq_true rfl⟩

theorem EncodedLength.orc (imm : Byte) : EncodedLength.Statement (.orc imm) :=
  ⟨Nat.le_of_ble_eq_true rfl, Nat.le_of_ble_eq_true rfl⟩

theorem EncodedLength.xorc (imm : Byte) : EncodedLength.Statement (.xorc imm) :=
  ⟨Nat.le_of_ble_eq_true rfl, Nat.le_of_ble_eq_true rfl⟩

theorem EncodedLength.ldc_imm (imm : Byte) : EncodedLength.Statement (.ldc_imm imm) :=
  ⟨Nat.le_of_ble_eq_true rfl, Nat.le_of_ble_eq_true rfl⟩

theorem EncodedLength.ldc_rs (rs : Reg4) : EncodedLength.Statement (.ldc_rs rs) :=
  ⟨Nat.le_of_ble_eq_true rfl, Nat.le_of_ble_eq_true rfl⟩

theorem EncodedLength.ldc_ind (ers : Reg3) : EncodedLength.Statement (.ldc_ind ers) :=
  ⟨Nat.le_of_ble_eq_true rfl, Nat.le_of_ble_eq_true rfl⟩

theorem EncodedLength.ldc_d16 (disp : Word) (ers : Reg3) : EncodedLength.Statement (.ldc_d16 disp ers) :=
  ⟨Nat.le_of_ble_eq_true rfl, Nat.le_of_ble_eq_true rfl⟩

theorem EncodedLength.ldc_d24 (disp : Long) (ers : Reg3) : EncodedLength.Statement (.ldc_d24 disp ers) :=
  ⟨Nat.le_of_ble_eq_true rfl, Nat.le_of_ble_eq_true rfl⟩

theorem EncodedLength.ldc_postInc (ers : Reg3) : EncodedLength.Statement (.ldc_postInc ers) :=
  ⟨Nat.le_of_ble_eq_true rfl, Nat.le_of_ble_eq_true rfl⟩

theorem EncodedLength.ldc_aa16 (aa : Word) : EncodedLength.Statement (.ldc_aa16 aa) :=
  ⟨Nat.le_of_ble_eq_true rfl, Nat.le_of_ble_eq_true rfl⟩

theorem EncodedLength.ldc_aa24 (aa : Long) : EncodedLength.Statement (.ldc_aa24 aa) :=
  ⟨Nat.le_of_ble_eq_true rfl, Nat.le_of_ble_eq_true rfl⟩

theorem EncodedLength.stc_rd (rd : Reg4) : EncodedLength.Statement (.stc_rd rd) :=
  ⟨Nat.le_of_ble_eq_true rfl, Nat.le_of_ble_eq_true rfl⟩

theorem EncodedLength.stc_ind (erd : Reg3) : EncodedLength.Statement (.stc_ind erd) :=
  ⟨Nat.le_of_ble_eq_true rfl, Nat.le_of_ble_eq_true rfl⟩

theorem EncodedLength.stc_d16 (disp : Word) (erd : Reg3) : EncodedLength.Statement (.stc_d16 disp erd) :=
  ⟨Nat.le_of_ble_eq_true rfl, Nat.le_of_ble_eq_true rfl⟩

theorem EncodedLength.stc_d24 (disp : Long) (erd : Reg3) : EncodedLength.Statement (.stc_d24 disp erd) :=
  ⟨Nat.le_of_ble_eq_true rfl, Nat.le_of_ble_eq_true rfl⟩

theorem EncodedLength.stc_preDec (erd : Reg3) : EncodedLength.Statement (.stc_preDec erd) :=
  ⟨Nat.le_of_ble_eq_true rfl, Nat.le_of_ble_eq_true rfl⟩

theorem EncodedLength.stc_aa16 (aa : Word) : EncodedLength.Statement (.stc_aa16 aa) :=
  ⟨Nat.le_of_ble_eq_true rfl, Nat.le_of_ble_eq_true rfl⟩

theorem EncodedLength.stc_aa24 (aa : Long) : EncodedLength.Statement (.stc_aa24 aa) :=
  ⟨Nat.le_of_ble_eq_true rfl, Nat.le_of_ble_eq_true rfl⟩

theorem EncodedLength.nop : EncodedLength.Statement .nop :=
  ⟨Nat.le_of_ble_eq_true rfl, Nat.le_of_ble_eq_true rfl⟩

theorem EncodedLength.sleep : EncodedLength.Statement .sleep :=
  ⟨Nat.le_of_ble_eq_true rfl, Nat.le_of_ble_eq_true rfl⟩

theorem EncodedLength.trapa (vec : BitVec 2) : EncodedLength.Statement (.trapa vec) :=
  ⟨Nat.le_of_ble_eq_true rfl, Nat.le_of_ble_eq_true rfl⟩

theorem EncodedLength.eepmovB : EncodedLength.Statement .eepmovB :=
  ⟨Nat.le_of_ble_eq_true rfl, Nat.le_of_ble_eq_true rfl⟩

theorem EncodedLength.eepmovW : EncodedLength.Statement .eepmovW :=
  ⟨Nat.le_of_ble_eq_true rfl, Nat.le_of_ble_eq_true rfl⟩

end Sys2Proof.Laws
end

