-- ==== Sys2Proof/Laws/System.lean ====
section
/-! SUPPORT. What the CCR-memory operations and the block transfer do (45_system.md). -/

namespace Sys2Proof.Machine

/-! ## LDC and STC with memory -/

/-- The even byte of the word read (R285). -/
theorem evenByte (s : State) (ea : Word) : (s.read16 ea).1.extractLsb' 8 8 = (s.read8 (evenAddr ea)).1 := by
  rw [s.read16_value]; unfold wordAt
  generalize (s.read8 (evenAddr ea)).1 = h
  generalize (s.read8 (oddAddr ea)).1 = l
  ext i hi; simp [BitVec.getElem_extractLsb']; grind

theorem State.loadCcr_spec (s : State) (ea : Word) :
    (s.loadCcr ea).ccr = (s.read8 (evenAddr ea)).1 ∧ NoRegister s (s.loadCcr ea)
      ∧ ReadWorld s (s.loadCcr ea) (touchesW ea) ∧ (s.loadCcr ea).pc = s.pc := by
  obtain ⟨e1, e2, _, _⟩ := s.read16_cpu ea
  exact ⟨evenByte s ea, fun n => State.reg_congr e1 n,
    (s.readWorld_read16 ea).of_same (SameWorld.of_fields rfl rfl rfl rfl rfl), e2⟩

theorem State.loadPostCcr_spec (s : State) (ers : Reg3) :
    (s.loadPostCcr ers).ccr = (s.read8 (evenAddr (s.eaInd ers))).1
      ∧ OnlyLong s (s.loadPostCcr ers) ers (s.reg ers + 2)
      ∧ ReadWorld s (s.loadPostCcr ers) (touchesW (s.eaInd ers)) ∧ (s.loadPostCcr ers).pc = s.pc := by
  obtain ⟨e1, e2, _, _⟩ := s.read16_cpu (s.eaInd ers)
  exact ⟨evenByte s _, (s.onlyLong_setReg ers (s.reg ers + 2)).of_er rfl (er_setReg_congr e1 ers 2),
    (s.readWorld_read16 _).of_same (SameWorld.of_fields rfl rfl rfl rfl rfl), e2⟩

/-- CCR in both bytes (R287). -/
theorem wordBytes_ccr (ea : Word) (c : Byte) : wordBytes ea (c ++ c) = [(evenAddr ea, c), (oddAddr ea, c)] := by
  have h1 : (c ++ c : Word).extractLsb' 8 8 = c := by revert c; decide
  have h2 : (c ++ c : Word).extractLsb' 0 8 = c := by revert c; decide
  simp [wordBytes, h1, h2]

theorem State.storeCcr_spec (s : State) (ea : Word) :
    NoRegister s (s.storeCcr ea) ∧ SameFlags s (s.storeCcr ea)
      ∧ StoreWorld s (s.storeCcr ea) [(evenAddr ea, s.ccr), (oddAddr ea, s.ccr)] ∧ (s.storeCcr ea).pc = s.pc := by
  refine ⟨fun n => by simp [State.storeCcr], by simp [State.storeCcr, SameFlags], ?_, by simp [State.storeCcr]⟩
  rw [← wordBytes_ccr]; exact s.storeWorld_write16 _ _

theorem State.storePreCcr_spec (s : State) (erd : Reg3) :
    OnlyLong s (s.storePreCcr erd) erd (s.reg erd - 2) ∧ SameFlags s (s.storePreCcr erd)
      ∧ StoreWorld s (s.storePreCcr erd)
          [(evenAddr ((s.reg erd - 2).setWidth 16), s.ccr), (oddAddr ((s.reg erd - 2).setWidth 16), s.ccr)]
      ∧ (s.storePreCcr erd).pc = s.pc := by
  have hb : s.bump erd (-2) = s.setReg erd (s.reg erd - 2) := by simp [State.bump, BitVec.sub_eq_add_neg]
  unfold State.storePreCcr
  simp only [hb, State.eaInd, State.reg_setReg_same]
  obtain ⟨a, b, c, d⟩ := (s.setReg erd (s.reg erd - 2)).storeCcr_spec ((s.reg erd - 2).setWidth 16)
  exact ⟨(s.onlyLong_setReg erd (s.reg erd - 2)).of_er rfl (State.er_ext a), b,
    c.from_same (s.sameWorld_setReg _ _), d⟩

/-! ## EEPMOV -/

/-- One turn of the loop (R291): the registers, and the store of the byte read. -/
theorem State.moveOneByte_spec (s : State) :
    s.moveOneByte.reg 5 = s.reg 5 + 1 ∧ s.moveOneByte.reg 6 = s.reg 6 + 1
      ∧ (∀ m, m ≠ 5 → m ≠ 6 → s.moveOneByte.reg m = s.reg m)
      ∧ SameFlags s s.moveOneByte ∧ s.moveOneByte.pc = s.pc ∧ s.moveOneByte.freeIndex = s.freeIndex
      ∧ StoreWorld (s.read8 (s.eaInd 5)).2 s.moveOneByte [(s.eaInd 6, (s.read8 (s.eaInd 5)).1)] := by
  obtain ⟨e1, e2, e3, e4⟩ := s.read8_cpu (s.eaInd 5)
  have hr : ∀ m, (s.read8 (s.eaInd 5)).2.reg m = s.reg m := fun m => State.reg_congr e1 m
  refine ⟨?_, ?_, fun m h5 h6 => ?_, ?_, ?_, ?_, ?_⟩
  · simp only [State.moveOneByte, State.bump, State.reg_setReg, State.write8_reg, hr, if_true]; rfl
  · simp only [State.moveOneByte, State.bump, State.reg_setReg, State.write8_reg, hr, if_true]; rfl
  · simp only [State.moveOneByte, State.bump, State.reg_setReg, State.write8_reg, hr, h5, h6, if_false]
  · show ((s.read8 _).2.write8 _ _).ccr = _
    rw [State.write8_ccr, e3]
  · show ((s.read8 _).2.write8 _ _).pc = _
    rw [State.write8_pc, e2]
  · show ((s.read8 _).2.write8 _ _).freeIndex = _
    rw [State.write8_freeIndex, e4]
  · exact (State.storeWorld_write8 _ _ _).of_same (SameWorld.of_fields rfl rfl rfl rfl rfl)

/-- One turn as the SSU sees it: a read of SSRDR clears RDRF, and the byte read is stored (R291, R325). -/
theorem State.moveOneByte_ssu (s : State) :
    s.moveOneByte.ssu =
      ssuStore (if s.eaInd 5 = 0xF0E9 then { s.ssu with sssr := s.ssu.sssr &&& 0xFD } else s.ssu)
        (s.eaInd 6, (s.read8 (s.eaInd 5)).1) := by
  obtain ⟨_, _, _, _, _, _, q⟩ := s.moveOneByte_spec
  rw [q.ssu, List.foldl_cons, List.foldl_nil]
  congr 1
  rw [State.read8_state]; split
  · simp [Ssu.setStatus, setBit1_false]
  · rfl

/-- One turn copies a byte into RAM. -/
theorem State.moveOneByte_copies (s : State) (h : InRam (s.eaInd 6)) :
    (s.moveOneByte.read8 (s.eaInd 6)).1 = (s.read8 (s.eaInd 5)).1 := by
  obtain ⟨_, _, _, _, _, _, q⟩ := s.moveOneByte_spec
  exact q.inRam (_, _) (List.mem_singleton.2 rfl) h

/-- One turn leaves every other byte, SSSR apart. -/
theorem State.moveOneByte_other (s : State) {a : Word} (h : a ≠ 0xF0E4) (h' : a ≠ s.eaInd 6) :
    (s.moveOneByte.read8 a).1 = (s.read8 a).1 := by
  obtain ⟨_, _, _, _, _, _, q⟩ := s.moveOneByte_spec
  rw [q.outside a (by simpa using h'.symm) fun e => absurd e h]
  exact (s.readWorld_read8 (s.eaInd 5)).bytes a fun _ => h

theorem moveBytes_succ_last (n : Nat) (s : State) :
    State.moveBytes (n + 1) s = (State.moveBytes n s).moveOneByte := by
  induction n generalizing s with
  | zero => rfl
  | succ n ih => rw [State.moveBytes, ih, State.moveBytes]

/-- The loop's registers and frame (R291), for any addresses. -/
theorem State.moveBytes_spec (n : Nat) (s : State) :
    (State.moveBytes n s).reg 5 = s.reg 5 + BitVec.ofNat 32 n
      ∧ (State.moveBytes n s).reg 6 = s.reg 6 + BitVec.ofNat 32 n
      ∧ (∀ m, m ≠ 5 → m ≠ 6 → (State.moveBytes n s).reg m = s.reg m)
      ∧ SameFlags s (State.moveBytes n s) ∧ (State.moveBytes n s).pc = s.pc
      ∧ (State.moveBytes n s).freeIndex = s.freeIndex
      ∧ (State.moveBytes n s).rom = s.rom ∧ (State.moveBytes n s).params = s.params
      ∧ (State.moveBytes n s).initialized = s.initialized
      ∧ ∀ a, a ≠ 0xF0E4 → (∀ k < n, a ≠ s.eaInd 6 + BitVec.ofNat 16 k) →
          ((State.moveBytes n s).read8 a).1 = (s.read8 a).1 := by
  induction n with
  | zero => simp [State.moveBytes, SameFlags]
  | succ n ih =>
    obtain ⟨r5, r6, rm, fl, pc, fi, ro, pa, ini, by8⟩ := ih
    rw [moveBytes_succ_last]
    generalize State.moveBytes n s = t at *
    obtain ⟨q5, q6, qm, qf, qpc, qfi, qw⟩ := t.moveOneByte_spec
    have hrw := t.readWorld_read8 (t.eaInd 5)
    have hd : t.eaInd 6 = s.eaInd 6 + BitVec.ofNat 16 n := by
      unfold State.eaInd; rw [r6]
      apply BitVec.eq_of_toNat_eq; simp [BitVec.toNat_add]
    refine ⟨?_, ?_, fun m a b => (qm m a b).trans (rm m a b), qf.trans fl, qpc.trans pc, qfi.trans fi,
      qw.rom.trans (hrw.rom.trans ro), qw.params.trans (hrw.params.trans pa),
      qw.initialized.trans (hrw.initialized.trans ini), fun a ha hk => ?_⟩
    · rw [q5, r5, BitVec.add_assoc, BitVec.ofNat_add]; rfl
    · rw [q6, r6, BitVec.add_assoc, BitVec.ofNat_add]; rfl
    · rw [qw.outside a ?_ fun e => absurd e ha, hrw.bytes a fun _ => ha, by8 a ha fun k h => hk k (by omega)]
      intro c hc
      simp only [List.mem_singleton] at hc
      subst hc
      rw [hd]; exact (hk n (by omega)).symm

/-- Where the two pointers stand after some turns, on the bus. -/
theorem State.moveBytes_eaInd (n : Nat) (s : State) :
    (State.moveBytes n s).eaInd 5 = s.eaInd 5 + BitVec.ofNat 16 n
      ∧ (State.moveBytes n s).eaInd 6 = s.eaInd 6 + BitVec.ofNat 16 n := by
  obtain ⟨r5, r6, _⟩ := State.moveBytes_spec n s
  unfold State.eaInd
  constructor
  · rw [r5]; apply BitVec.eq_of_toNat_eq; simp [BitVec.toNat_add]
  · rw [r6]; apply BitVec.eq_of_toNat_eq; simp [BitVec.toNat_add]

end Sys2Proof.Machine
end

