-- ==== Sys2Proof/Tests/Slice0.lean ====
section
/-! SUPPORT. The model's own tests. Expected values come from the specification: the encodings of
30_encoding.md rule R112 and the vectors of 95_test_vectors.md, whose numbers the test names carry. The last part
shows, for each statement of Sys2Proof/Certificates/Slice0/Obligations.lean that has hypotheses, values that meet them. -/

open Sys2Proof Sys2Proof.Machine

namespace Sys2Proof.Tests

set_option maxRecDepth 8000

/-! ## Well-formedness (R107): the sixteen checks -/

/-- The sixteen operands that can be ill-formed, with the field `x`. -/
noncomputable def with24 (x : Long) : List Instr :=
  [.movB_d24_rd x 1 8, .movB_aa24_rd x 8, .movB_rs_d24 8 x 1, .movB_rs_aa24 8 x,
   .movW_d24_rd x 1 8, .movW_aa24_rd x 8, .movW_rs_d24 8 x 1, .movW_rs_aa24 8 x,
   .movL_d24_erd x 1 2, .movL_aa24_erd x 2, .movL_ers_d24 2 x 1, .movL_ers_aa24 2 x,
   .ldc_d24 x 1, .ldc_aa24 x, .stc_d24 x 1, .stc_aa24 x]

theorem test_wellFormed_accepts : (with24 0x00FFFFFF).all Instr.wellFormed = true := by decide

theorem test_wellFormed_rejects_first : (with24 0x01000000).all (fun i => !i.wellFormed) = true := by decide

theorem test_wellFormed_rejects_last : (with24 0xFF123456).all (fun i => !i.wellFormed) = true := by decide

/-- The decoder refuses the words of such an instruction (R116). -/
theorem test_decode_rejects_top_byte : (with24 0x01000000).all
    (fun i => decide (decode (encode i) = .undefinedOpcode)) = true := by decide

/-! ## Decoding: every row, its words filled in from the encoding of spec/opcode_table.json -/

/-- Each word list decodes to its instruction, takes all its words, and is what the instruction encodes to. -/
noncomputable def decodesAll (rows : List (List Word × Instr)) : Bool :=
  rows.all fun r => decide (decode r.1 = .instr r.2 r.1.length) && decide (encode r.2 = r.1)

theorem test_decode_data_transfer_1 : decodesAll [
    ([0x0C96], .movB_rs_rd 9 6),
    ([0xF6A3], .movB_imm_rd 0xa3 6),
    ([0x6856], .movB_ind_rd 5 6),
    ([0x6E56, 0x8C15], .movB_d16_rd 0x8c15 5 6),
    ([0x7850, 0x6A26, 0x009A, 0xBCDE], .movB_d24_rd 0x9abcde 5 6),
    ([0x6C56], .movB_postInc_rd 5 6),
    ([0x26A3], .movB_aa8_rd 0xa3 6),
    ([0x6A06, 0x8C15], .movB_aa16_rd 0x8c15 6),
    ([0x6A26, 0x009A, 0xBCDE], .movB_aa24_rd 0x9abcde 6),
    ([0x68A9], .movB_rs_ind 9 2),
    ([0x6EA9, 0x8C15], .movB_rs_d16 9 0x8c15 2),
    ([0x7820, 0x6AA9, 0x009A, 0xBCDE], .movB_rs_d24 9 0x9abcde 2),
    ([0x6CA9], .movB_rs_preDec 9 2),
    ([0x39A3], .movB_rs_aa8 9 0xa3),
    ([0x6A89, 0x8C15], .movB_rs_aa16 9 0x8c15),
    ([0x6AA9, 0x009A, 0xBCDE], .movB_rs_aa24 9 0x9abcde),
    ([0x0D96], .movW_rs_rd 9 6),
    ([0x7906, 0x8C15], .movW_imm_rd 0x8c15 6),
    ([0x6956], .movW_ind_rd 5 6),
    ([0x6F56, 0x8C15], .movW_d16_rd 0x8c15 5 6),
    ([0x7850, 0x6B26, 0x009A, 0xBCDE], .movW_d24_rd 0x9abcde 5 6),
    ([0x6D56], .movW_postInc_rd 5 6),
    ([0x6B06, 0x8C15], .movW_aa16_rd 0x8c15 6),
    ([0x6B26, 0x009A, 0xBCDE], .movW_aa24_rd 0x9abcde 6),
    ([0x69A9], .movW_rs_ind 9 2),
    ([0x6FA9, 0x8C15], .movW_rs_d16 9 0x8c15 2),
    ([0x7820, 0x6BA9, 0x009A, 0xBCDE], .movW_rs_d24 9 0x9abcde 2),
    ([0x6DA9], .movW_rs_preDec 9 2),
    ([0x6B89, 0x8C15], .movW_rs_aa16 9 0x8c15),
    ([0x6BA9, 0x009A, 0xBCDE], .movW_rs_aa24 9 0x9abcde)] = true := by decide

theorem test_decode_data_transfer_2 : decodesAll [
    ([0x0FD2], .movL_ers_erd 5 2),
    ([0x7A02, 0x89AB, 0xCDEF], .movL_imm_erd 0x89abcdef 2),
    ([0x0100, 0x6952], .movL_ind_erd 5 2),
    ([0x0100, 0x6F52, 0x8C15], .movL_d16_erd 0x8c15 5 2),
    ([0x0100, 0x7850, 0x6B22, 0x009A, 0xBCDE], .movL_d24_erd 0x9abcde 5 2),
    ([0x0100, 0x6D52], .movL_postInc_erd 5 2),
    ([0x0100, 0x6B02, 0x8C15], .movL_aa16_erd 0x8c15 2),
    ([0x0100, 0x6B22, 0x009A, 0xBCDE], .movL_aa24_erd 0x9abcde 2),
    ([0x0100, 0x69A5], .movL_ers_ind 5 2),
    ([0x0100, 0x6FA5, 0x8C15], .movL_ers_d16 5 0x8c15 2),
    ([0x0100, 0x78A0, 0x6BA5, 0x009A, 0xBCDE], .movL_ers_d24 5 0x9abcde 2),
    ([0x0100, 0x6DA5], .movL_ers_preDec 5 2),
    ([0x0100, 0x6B85, 0x8C15], .movL_ers_aa16 5 0x8c15),
    ([0x0100, 0x6BA5, 0x009A, 0xBCDE], .movL_ers_aa24 5 0x9abcde),
    ([0x6A46, 0x8C15], .movfpe_aa16_rd 0x8c15 6),
    ([0x6AC9, 0x8C15], .movtpe_rs_aa16 9 0x8c15)] = true := by decide

theorem test_decode_arithmetic_1 : decodesAll [
    ([0x86A3], .addB_imm_rd 0xa3 6),
    ([0x0896], .addB_rs_rd 9 6),
    ([0x7916, 0x8C15], .addW_imm_rd 0x8c15 6),
    ([0x0996], .addW_rs_rd 9 6),
    ([0x7A12, 0x89AB, 0xCDEF], .addL_imm_erd 0x89abcdef 2),
    ([0x0AD2], .addL_ers_erd 5 2),
    ([0x0B02], .adds_1 2),
    ([0x0B82], .adds_2 2),
    ([0x0B92], .adds_4 2),
    ([0x96A3], .addx_imm_rd 0xa3 6),
    ([0x0E96], .addx_rs_rd 9 6),
    ([0x1896], .subB_rs_rd 9 6),
    ([0x7936, 0x8C15], .subW_imm_rd 0x8c15 6),
    ([0x1996], .subW_rs_rd 9 6),
    ([0x7A32, 0x89AB, 0xCDEF], .subL_imm_erd 0x89abcdef 2),
    ([0x1AD2], .subL_ers_erd 5 2),
    ([0x1B02], .subs_1 2),
    ([0x1B82], .subs_2 2),
    ([0x1B92], .subs_4 2),
    ([0xB6A3], .subx_imm_rd 0xa3 6),
    ([0x1E96], .subx_rs_rd 9 6),
    ([0xA6A3], .cmpB_imm_rd 0xa3 6),
    ([0x1C96], .cmpB_rs_rd 9 6),
    ([0x7926, 0x8C15], .cmpW_imm_rd 0x8c15 6),
    ([0x1D96], .cmpW_rs_rd 9 6),
    ([0x7A22, 0x89AB, 0xCDEF], .cmpL_imm_erd 0x89abcdef 2),
    ([0x1FD2], .cmpL_ers_erd 5 2),
    ([0x1786], .negB 6),
    ([0x1796], .negW 6),
    ([0x17B2], .negL 2)] = true := by decide

theorem test_decode_arithmetic_2 : decodesAll [
    ([0x0F06], .daa 6),
    ([0x1F06], .das 6),
    ([0x5096], .mulxuB_rs_rd 9 6),
    ([0x5292], .mulxuW_rs_erd 9 2),
    ([0x5196], .divxuB_rs_rd 9 6),
    ([0x5392], .divxuW_rs_erd 9 2),
    ([0x01D0, 0x5196], .divxsB_rs_rd 9 6),
    ([0x01D0, 0x5392], .divxsW_rs_erd 9 2),
    ([0x01C0, 0x5096], .mulxsB_rs_rd 9 6),
    ([0x01C0, 0x5292], .mulxsW_rs_erd 9 2),
    ([0x0A06], .incB 6),
    ([0x0B56], .incW_1 6),
    ([0x0BD6], .incW_2 6),
    ([0x0B72], .incL_1 2),
    ([0x0BF2], .incL_2 2),
    ([0x1A06], .decB 6),
    ([0x1B56], .decW_1 6),
    ([0x1BD6], .decW_2 6),
    ([0x1B72], .decL_1 2),
    ([0x1BF2], .decL_2 2),
    ([0x1756], .extuW 6),
    ([0x1772], .extuL 2),
    ([0x17D6], .extsW 6),
    ([0x17F2], .extsL 2)] = true := by decide

theorem test_decode_logic_and_shifts_1 : decodesAll [
    ([0xE6A3], .andB_imm_rd 0xa3 6),
    ([0x1696], .andB_rs_rd 9 6),
    ([0x7966, 0x8C15], .andW_imm_rd 0x8c15 6),
    ([0x6696], .andW_rs_rd 9 6),
    ([0x7A62, 0x89AB, 0xCDEF], .andL_imm_erd 0x89abcdef 2),
    ([0x01F0, 0x6652], .andL_ers_erd 5 2),
    ([0xC6A3], .orB_imm_rd 0xa3 6),
    ([0x1496], .orB_rs_rd 9 6),
    ([0x7946, 0x8C15], .orW_imm_rd 0x8c15 6),
    ([0x6496], .orW_rs_rd 9 6),
    ([0x7A42, 0x89AB, 0xCDEF], .orL_imm_erd 0x89abcdef 2),
    ([0x01F0, 0x6452], .orL_ers_erd 5 2),
    ([0xD6A3], .xorB_imm_rd 0xa3 6),
    ([0x1596], .xorB_rs_rd 9 6),
    ([0x7956, 0x8C15], .xorW_imm_rd 0x8c15 6),
    ([0x6596], .xorW_rs_rd 9 6),
    ([0x7A52, 0x89AB, 0xCDEF], .xorL_imm_erd 0x89abcdef 2),
    ([0x01F0, 0x6552], .xorL_ers_erd 5 2),
    ([0x1706], .notB 6),
    ([0x1716], .notW 6),
    ([0x1732], .notL 2),
    ([0x1086], .shalB 6),
    ([0x1096], .shalW 6),
    ([0x10B2], .shalL 2),
    ([0x1186], .sharB 6),
    ([0x1196], .sharW 6),
    ([0x11B2], .sharL 2),
    ([0x1006], .shllB 6),
    ([0x1016], .shllW 6),
    ([0x1032], .shllL 2)] = true := by decide

theorem test_decode_logic_and_shifts_2 : decodesAll [
    ([0x1106], .shlrB 6),
    ([0x1116], .shlrW 6),
    ([0x1132], .shlrL 2),
    ([0x1286], .rotlB 6),
    ([0x1296], .rotlW 6),
    ([0x12B2], .rotlL 2),
    ([0x1386], .rotrB 6),
    ([0x1396], .rotrW 6),
    ([0x13B2], .rotrL 2),
    ([0x1206], .rotxlB 6),
    ([0x1216], .rotxlW 6),
    ([0x1232], .rotxlL 2),
    ([0x1306], .rotxrB 6),
    ([0x1316], .rotxrW 6),
    ([0x1332], .rotxrL 2)] = true := by decide

theorem test_decode_bit_manipulation_1 : decodesAll [
    ([0x7066], .bset_imm_rd 6 6),
    ([0x7D20, 0x7060], .bset_imm_ind 6 2),
    ([0x7FA3, 0x7060], .bset_imm_aa8 6 0xa3),
    ([0x60B6], .bset_rn_rd 11 6),
    ([0x7D20, 0x60B0], .bset_rn_ind 11 2),
    ([0x7FA3, 0x60B0], .bset_rn_aa8 11 0xa3),
    ([0x7266], .bclr_imm_rd 6 6),
    ([0x7D20, 0x7260], .bclr_imm_ind 6 2),
    ([0x7FA3, 0x7260], .bclr_imm_aa8 6 0xa3),
    ([0x62B6], .bclr_rn_rd 11 6),
    ([0x7D20, 0x62B0], .bclr_rn_ind 11 2),
    ([0x7FA3, 0x62B0], .bclr_rn_aa8 11 0xa3),
    ([0x7166], .bnot_imm_rd 6 6),
    ([0x7D20, 0x7160], .bnot_imm_ind 6 2),
    ([0x7FA3, 0x7160], .bnot_imm_aa8 6 0xa3),
    ([0x61B6], .bnot_rn_rd 11 6),
    ([0x7D20, 0x61B0], .bnot_rn_ind 11 2),
    ([0x7FA3, 0x61B0], .bnot_rn_aa8 11 0xa3),
    ([0x7366], .btst_imm_rd 6 6),
    ([0x7C20, 0x7360], .btst_imm_ind 6 2),
    ([0x7EA3, 0x7360], .btst_imm_aa8 6 0xa3),
    ([0x63B6], .btst_rn_rd 11 6),
    ([0x7C20, 0x63B0], .btst_rn_ind 11 2),
    ([0x7EA3, 0x63B0], .btst_rn_aa8 11 0xa3),
    ([0x7666], .band_imm_rd 6 6),
    ([0x7C20, 0x7660], .band_imm_ind 6 2),
    ([0x7EA3, 0x7660], .band_imm_aa8 6 0xa3),
    ([0x76E6], .biand_imm_rd 6 6),
    ([0x7C20, 0x76E0], .biand_imm_ind 6 2),
    ([0x7EA3, 0x76E0], .biand_imm_aa8 6 0xa3)] = true := by decide

theorem test_decode_bit_manipulation_2 : decodesAll [
    ([0x7466], .bor_imm_rd 6 6),
    ([0x7C20, 0x7460], .bor_imm_ind 6 2),
    ([0x7EA3, 0x7460], .bor_imm_aa8 6 0xa3),
    ([0x74E6], .bior_imm_rd 6 6),
    ([0x7C20, 0x74E0], .bior_imm_ind 6 2),
    ([0x7EA3, 0x74E0], .bior_imm_aa8 6 0xa3),
    ([0x7566], .bxor_imm_rd 6 6),
    ([0x7C20, 0x7560], .bxor_imm_ind 6 2),
    ([0x7EA3, 0x7560], .bxor_imm_aa8 6 0xa3),
    ([0x75E6], .bixor_imm_rd 6 6),
    ([0x7C20, 0x75E0], .bixor_imm_ind 6 2),
    ([0x7EA3, 0x75E0], .bixor_imm_aa8 6 0xa3),
    ([0x7766], .bld_imm_rd 6 6),
    ([0x7C20, 0x7760], .bld_imm_ind 6 2),
    ([0x7EA3, 0x7760], .bld_imm_aa8 6 0xa3),
    ([0x77E6], .bild_imm_rd 6 6),
    ([0x7C20, 0x77E0], .bild_imm_ind 6 2),
    ([0x7EA3, 0x77E0], .bild_imm_aa8 6 0xa3),
    ([0x6766], .bst_imm_rd 6 6),
    ([0x7D20, 0x6760], .bst_imm_ind 6 2),
    ([0x7FA3, 0x6760], .bst_imm_aa8 6 0xa3),
    ([0x67E6], .bist_imm_rd 6 6),
    ([0x7D20, 0x67E0], .bist_imm_ind 6 2),
    ([0x7FA3, 0x67E0], .bist_imm_aa8 6 0xa3)] = true := by decide

theorem test_decode_control_transfer_1 : decodesAll [
    ([0x40A3], .bra_d8 0xa3),
    ([0x41A3], .brn_d8 0xa3),
    ([0x42A3], .bhi_d8 0xa3),
    ([0x43A3], .bls_d8 0xa3),
    ([0x44A3], .bcc_d8 0xa3),
    ([0x45A3], .bcs_d8 0xa3),
    ([0x46A3], .bne_d8 0xa3),
    ([0x47A3], .beq_d8 0xa3),
    ([0x48A3], .bvc_d8 0xa3),
    ([0x49A3], .bvs_d8 0xa3),
    ([0x4AA3], .bpl_d8 0xa3),
    ([0x4BA3], .bmi_d8 0xa3),
    ([0x4CA3], .bge_d8 0xa3),
    ([0x4DA3], .blt_d8 0xa3),
    ([0x4EA3], .bgt_d8 0xa3),
    ([0x4FA3], .ble_d8 0xa3),
    ([0x5800, 0x8C15], .bra_d16 0x8c15),
    ([0x5810, 0x8C15], .brn_d16 0x8c15),
    ([0x5820, 0x8C15], .bhi_d16 0x8c15),
    ([0x5830, 0x8C15], .bls_d16 0x8c15),
    ([0x5840, 0x8C15], .bcc_d16 0x8c15),
    ([0x5850, 0x8C15], .bcs_d16 0x8c15),
    ([0x5860, 0x8C15], .bne_d16 0x8c15),
    ([0x5870, 0x8C15], .beq_d16 0x8c15),
    ([0x5880, 0x8C15], .bvc_d16 0x8c15),
    ([0x5890, 0x8C15], .bvs_d16 0x8c15),
    ([0x58A0, 0x8C15], .bpl_d16 0x8c15),
    ([0x58B0, 0x8C15], .bmi_d16 0x8c15),
    ([0x58C0, 0x8C15], .bge_d16 0x8c15),
    ([0x58D0, 0x8C15], .blt_d16 0x8c15)] = true := by decide

theorem test_decode_control_transfer_2 : decodesAll [
    ([0x58E0, 0x8C15], .bgt_d16 0x8c15),
    ([0x58F0, 0x8C15], .ble_d16 0x8c15),
    ([0x5930], .jmp_ind 3),
    ([0x5A9A, 0xBCDE], .jmp_aa24 0x9abcde),
    ([0x5BA3], .jmp_memInd 0xa3),
    ([0x5D30], .jsr_ind 3),
    ([0x5E9A, 0xBCDE], .jsr_aa24 0x9abcde),
    ([0x5FA3], .jsr_memInd 0xa3),
    ([0x55A3], .bsr_d8 0xa3),
    ([0x5C00, 0x8C15], .bsr_d16 0x8c15),
    ([0x5470], .rts),
    ([0x5670], .rte)] = true := by decide

theorem test_decode_system_1 : decodesAll [
    ([0x06A3], .andc 0xa3),
    ([0x04A3], .orc 0xa3),
    ([0x05A3], .xorc 0xa3),
    ([0x07A3], .ldc_imm 0xa3),
    ([0x0309], .ldc_rs 9),
    ([0x0140, 0x6950], .ldc_ind 5),
    ([0x0140, 0x6F50, 0x8C15], .ldc_d16 0x8c15 5),
    ([0x0140, 0x7850, 0x6B20, 0x009A, 0xBCDE], .ldc_d24 0x9abcde 5),
    ([0x0140, 0x6D50], .ldc_postInc 5),
    ([0x0140, 0x6B00, 0x8C15], .ldc_aa16 0x8c15),
    ([0x0140, 0x6B20, 0x009A, 0xBCDE], .ldc_aa24 0x9abcde),
    ([0x0206], .stc_rd 6),
    ([0x0140, 0x69A0], .stc_ind 2),
    ([0x0140, 0x6FA0, 0x8C15], .stc_d16 0x8c15 2),
    ([0x0140, 0x7820, 0x6BA0, 0x009A, 0xBCDE], .stc_d24 0x9abcde 2),
    ([0x0140, 0x6DA0], .stc_preDec 2),
    ([0x0140, 0x6B80, 0x8C15], .stc_aa16 0x8c15),
    ([0x0140, 0x6BA0, 0x009A, 0xBCDE], .stc_aa24 0x9abcde),
    ([0x0000], .nop),
    ([0x0180], .sleep),
    ([0x5720], .trapa 2),
    ([0x7B5C, 0x598F], .eepmovB),
    ([0x7BD4, 0x598F], .eepmovW)] = true := by decide

/-- Vectors X-1 to X-21: words that no row matches (R114, R116). -/
theorem test_decode_undefined : List.all [
    [0x0123], [0x0001], [0x0B10], [0x0A10],
    [0x0A88], [0x0F10], [0x1F10], [0x1720],
    [0x1740], [0x1020], [0x5740], [0x5731],
    [0x5980], [0x5901], [0x5C01, 0x0000], [0x5801, 0x0004],
    [0x6A10, 0x1234], [0x6B10, 0x1234], [0x0100, 0x0000], [0x0110, 0x6910],
    [0x01C0, 0x5110], [0x01D0, 0x5010], [0x01F0, 0x6710], [0x7800, 0x0000],
    [0x7C00, 0x7000], [0x7E10, 0x7000], [0x7D00, 0x7300], [0x7F10, 0x7300],
    [0x7A08, 0x0000, 0x0000], [0x7A70, 0x0000, 0x0000], [0x7970, 0x0000], [0x7B5C, 0x598E],
    [0x7B5C, 0x0000], [0x7B00, 0x598F]] (fun ws => decide (decode ws = .undefinedOpcode)) = true := by decide

/-- A row's number: the instruction's bytes as one number, here `78 20 6A A8 00 12 34 56` (R103). -/
theorem test_decodeTableWord_long :
    decodeTableWord 64 0x78206AA800123456 = some (.movB_rs_d24 8 0x00123456 2) := by decide

theorem test_decodeTableWord_refuses : decodeTableWord 16 0x0001 = none := by decide

/-! ## One step: vectors of 95_test_vectors.md -/

/-- The eight registers, those not listed 0. -/
def regsOf (l : List (Reg3 × Long)) : Vector Long 8 :=
  l.foldl (fun v c => v.set c.1.toNat c.2 c.1.isLt) (Vector.replicate 8 0)

/-- The start state of a vector: the code at 0x0100, some registers, CCR and RAM bytes. -/
noncomputable def start (code : List Word) (regs : List (Reg3 × Long)) (ccr : Byte) (ram : List (Word × Byte)) : State :=
  ram.foldl (fun s c => s.poke c.1 c.2)
    (({ State.reset with initialized := true, pc := 0x100, ccr := ccr, er := regsOf regs } : State).pokeWords 0x100 code)

/-- Whether a step has a next state with these registers, CCR, PC and RAM bytes. -/
def gives (o : Host.Outcome State Fault Refusal) (regs : List (Reg3 × Long)) (ccr : Byte) (pc : Long)
    (ram : List (Word × Byte)) : Bool :=
  match o with
  | .next t => decide (t.er = regsOf regs) && decide (t.ccr = ccr) && decide (t.pc = pc)
      && ram.all (fun c => decide ((t.read8 c.1).1 = c.2))
  | .fault _ => false
  | .refused _ => false

theorem test_D1_mov_zero : gives (step (start [0xF800] [] 0x0B []))
    [] 0x05 0x000102 [] = true := by decide

theorem test_D3_mov_byte : gives (step (start [0x0C81] [(0, 0x000000A5)] 0x00 []))
    [(0, 0x000000A5), (1, 0x0000A500)] 0x08 0x000102 [] = true := by decide

theorem test_D4_mov_load_byte : gives (step (start [0x6810] [(1, 0x1234F800)] 0x00 [(0xF800, 0x7F)]))
    [(1, 0x1234F800), (0, 0x00007F00)] 0x00 0x000102 [] = true := by decide

theorem test_D7_postinc_overlap : gives (step (start [0x6C19] [(1, 0x0000F800)] 0x00 [(0xF800, 0x5A)]))
    [(1, 0x0000F85A)] 0x00 0x000102 [] = true := by decide

theorem test_D11_store_rom : gives (step (start [0x6890] [(0, 0x0000AB00), (1, 0x00001000)] 0x00 []))
    [(0, 0x0000AB00), (1, 0x00001000)] 0x08 0x000102 [(0x1000, 0x00)] = true := by decide

theorem test_D17_odd_word : gives (step (start [0x6910] [(1, 0x0000F801)] 0x00 [(0xF800, 0x12), (0xF801, 0x34)]))
    [(1, 0x0000F801), (0, 0x00001234)] 0x00 0x000102 [] = true := by decide

theorem test_D18_push_word : gives (step (start [0x6DF0] [(0, 0x0000CAFE), (7, 0x0000FF80)] 0x00 []))
    [(0, 0x0000CAFE), (7, 0x0000FF7E)] 0x08 0x000102 [(0xFF7E, 0xCA), (0xFF7F, 0xFE)] = true := by decide

theorem test_D20_pop_r7 : gives (step (start [0x6D77] [(7, 0x0000FF7E)] 0x00 [(0xFF7E, 0x12), (0xFF7F, 0x34)]))
    [(7, 0x00001234)] 0x00 0x000102 [] = true := by decide

theorem test_D22_predec_same : gives (step (start [0x6D80] [(0, 0x0000F902)] 0x00 []))
    [(0, 0x0000F900)] 0x08 0x000102 [(0xF900, 0xF9), (0xF901, 0x00)] = true := by decide

theorem test_D31_store_long_edge : gives (step (start [0x0100, 0x6990] [(0, 0x11223344), (1, 0x0000FF7E)] 0x00 []))
    [(0, 0x11223344), (1, 0x0000FF7E)] 0x00 0x000104 [(0xFF7E, 0x11), (0xFF7F, 0x22), (0xFF80, 0xFF), (0xFF81, 0xFF)] = true := by decide

theorem test_D36_pop_er7 : gives (step (start [0x0100, 0x6D77] [(7, 0x0000FF7C)] 0x00 [(0xFF7C, 0x00), (0xFF7D, 0x00), (0xFF7E, 0xF8), (0xFF7F, 0x00)]))
    [(7, 0x0000F800)] 0x00 0x000104 [] = true := by decide

theorem test_D39_store_long_d24 : gives (step (start [0x0100, 0x7890, 0x6BA2, 0x0000, 0x0008] [(1, 0x0000F800), (2, 0xCAFEBABE)] 0x00 []))
    [(1, 0x0000F800), (2, 0xCAFEBABE)] 0x08 0x00010A [(0xF808, 0xCA), (0xF809, 0xFE), (0xF80A, 0xBA), (0xF80B, 0xBE)] = true := by decide

theorem test_D41_movfpe : gives (step (start [0x6A40, 0xF780] [] 0x00 [(0xF780, 0x81)]))
    [(0, 0x00008100)] 0x08 0x000104 [] = true := by decide

theorem test_D42_movtpe : gives (step (start [0x6AC0, 0xF780] [(0, 0x00007700)] 0x00 []))
    [(0, 0x00007700)] 0x00 0x000104 [(0xF780, 0x77)] = true := by decide

theorem test_A1_add_byte : gives (step (start [0x0810] [(0, 0x00007F00), (1, 0x00000100)] 0x00 []))
    [(0, 0x00008000), (1, 0x00000100)] 0x2A 0x000102 [] = true := by decide

theorem test_A5_add_word : gives (step (start [0x0912] [(1, 0x00000FFF), (2, 0x00000001)] 0x00 []))
    [(1, 0x00000FFF), (2, 0x00001000)] 0x20 0x000102 [] = true := by decide

theorem test_A11_add_long : gives (step (start [0x0A80] [(0, 0xFFFFFFFF)] 0x80 []))
    [(0, 0xFFFFFFFE)] 0xA9 0x000102 [] = true := by decide

theorem test_A12_adds : gives (step (start [0x0B97] [(7, 0x0000FFFE)] 0x0F []))
    [(7, 0x00010002)] 0x0F 0x000102 [] = true := by decide

theorem test_A15_subs : gives (step (start [0x1B87] [(7, 0x00000001)] 0x2F []))
    [(7, 0xFFFFFFFF)] 0x2F 0x000102 [] = true := by decide

theorem test_A18_addx_keeps_z : gives (step (start [0x0E10] [(0, 0x0000FF00)] 0x05 []))
    [(0, 0x00000000)] 0x25 0x000102 [] = true := by decide

theorem test_A26_subx : gives (step (start [0xB8FF] [] 0x01 []))
    [] 0x21 0x000102 [] = true := by decide

theorem test_A31_sub_word : gives (step (start [0x1910] [(0, 0x00001000), (1, 0x00000001)] 0x00 []))
    [(0, 0x00000FFF), (1, 0x00000001)] 0x20 0x000102 [] = true := by decide

theorem test_A35_cmp_byte : gives (step (start [0xA843] [(0, 0x00000042)] 0x00 []))
    [(0, 0x00000042)] 0x29 0x000102 [] = true := by decide

theorem test_A39_cmp_long : gives (step (start [0x1F90] [(0, 0x80000000), (1, 0x00000001)] 0x00 []))
    [(0, 0x80000000), (1, 0x00000001)] 0x22 0x000102 [] = true := by decide

theorem test_A44_neg_byte : gives (step (start [0x1788] [(0, 0x00000010)] 0x00 []))
    [(0, 0x000000F0)] 0x09 0x000102 [] = true := by decide

theorem test_A52_daa : gives (step (start [0x0F08] [(0, 0x00000012)] 0x21 []))
    [(0, 0x00000078)] 0x21 0x000102 [] = true := by decide

theorem test_A57_das : gives (step (start [0x1F08] [(0, 0x000000F7)] 0x09 []))
    [(0, 0x00000097)] 0x09 0x000102 [] = true := by decide

theorem test_A62_mulxu_same : gives (step (start [0x5000] [(0, 0x00000305)] 0x00 []))
    [(0, 0x0000000F)] 0x00 0x000102 [] = true := by decide

theorem test_A64_mulxu_word : gives (step (start [0x5212] [(1, 0x0000FFFF), (2, 0x0001FFFF)] 0x00 []))
    [(1, 0x0000FFFF), (2, 0xFFFE0001)] 0x00 0x000102 [] = true := by decide

theorem test_A67_mulxs : gives (step (start [0x01C0, 0x5010] [(0, 0x000000FF), (1, 0x00000200)] 0x03 []))
    [(0, 0x0000FFFE), (1, 0x00000200)] 0x0B 0x000104 [] = true := by decide

theorem test_A72_divxu : gives (step (start [0x5110] [(0, 0x00000064), (1, 0x00000700)] 0x23 []))
    [(0, 0x0000020E), (1, 0x00000700)] 0x23 0x000102 [] = true := by decide

theorem test_A75_divxu_overflow : gives (step (start [0x5110] [(0, 0x0000FFFF), (1, 0x0000FF00)] 0x00 []))
    [(0, 0x00000001), (1, 0x0000FF00)] 0x08 0x000102 [] = true := by decide

theorem test_A81_divxs : gives (step (start [0x01D0, 0x5110] [(0, 0x0000FF9C), (1, 0x00000700)] 0x00 []))
    [(0, 0x0000FEF2), (1, 0x00000700)] 0x08 0x000104 [] = true := by decide

theorem test_A88_divxs_word : gives (step (start [0x01D0, 0x5312] [(1, 0x000003E8), (2, 0xFFFE7960)] 0x00 []))
    [(1, 0x000003E8), (2, 0x0000FF9C)] 0x08 0x000104 [] = true := by decide

theorem test_A91_inc : gives (step (start [0x0A08] [(0, 0x0000007F)] 0x21 []))
    [(0, 0x00000080)] 0x2B 0x000102 [] = true := by decide

theorem test_A106_dec : gives (step (start [0x1BD0] [(0, 0x00008001)] 0x00 []))
    [(0, 0x00007FFF)] 0x02 0x000102 [] = true := by decide

theorem test_A113_extu : gives (step (start [0x1770] [(0, 0xFFFF8000)] 0x08 []))
    [(0, 0x00008000)] 0x00 0x000102 [] = true := by decide

theorem test_A116_exts : gives (step (start [0x17D8] [(0, 0x00800000)] 0x00 []))
    [(0, 0xFF800000)] 0x08 0x000102 [] = true := by decide

theorem test_G1_and : gives (step (start [0xE80F] [(0, 0x000000F0)] 0x2B []))
    [(0, 0x00000000)] 0x25 0x000102 [] = true := by decide

theorem test_G12_or_long : gives (step (start [0x01F0, 0x6410] [(1, 0x80000000)] 0x00 []))
    [(1, 0x80000000), (0, 0x80000000)] 0x08 0x000104 [] = true := by decide

theorem test_G16_xor_word : gives (step (start [0x6510] [(0, 0x00001234), (1, 0x00001234)] 0x00 []))
    [(0, 0x00000000), (1, 0x00001234)] 0x04 0x000102 [] = true := by decide

theorem test_G19_not : gives (step (start [0x1708] [(0, 0x00000055)] 0x23 []))
    [(0, 0x000000AA)] 0x29 0x000102 [] = true := by decide

theorem test_H2_shal : gives (step (start [0x1088] [(0, 0x00000080)] 0x00 []))
    [(0, 0x00000000)] 0x07 0x000102 [] = true := by decide

theorem test_H8_shll_long : gives (step (start [0x1030] [(0, 0xC0000001)] 0x00 []))
    [(0, 0x80000002)] 0x09 0x000102 [] = true := by decide

theorem test_H15_shar : gives (step (start [0x1190] [(0, 0x00008000)] 0x00 []))
    [(0, 0x0000C000)] 0x08 0x000102 [] = true := by decide

theorem test_H17_shlr : gives (step (start [0x1108] [(0, 0x00000081)] 0x08 []))
    [(0, 0x00000040)] 0x01 0x000102 [] = true := by decide

theorem test_H23_rotl : gives (step (start [0x1290] [(0, 0x00008000)] 0x00 []))
    [(0, 0x00000001)] 0x01 0x000102 [] = true := by decide

theorem test_H28_rotr : gives (step (start [0x13B0] [(0, 0x00000001)] 0x00 []))
    [(0, 0x80000000)] 0x09 0x000102 [] = true := by decide

theorem test_H31_rotxl : gives (step (start [0x1208] [(0, 0x00000080)] 0x01 []))
    [(0, 0x00000001)] 0x01 0x000102 [] = true := by decide

theorem test_H36_rotxr : gives (step (start [0x1308] [(0, 0x00000001)] 0x03 []))
    [(0, 0x00000080)] 0x09 0x000102 [] = true := by decide

theorem test_T8_bset_register_number : gives (step (start [0x6018] [(0, 0x00000000), (1, 0x00000B00)] 0x00 []))
    [(0, 0x00000008), (1, 0x00000B00)] 0x00 0x000102 [] = true := by decide

theorem test_T4_bnot : gives (step (start [0x7148] [(0, 0x00000010)] 0x00 []))
    [(0, 0x00000000)] 0x00 0x000102 [] = true := by decide

theorem test_T11_btst : gives (step (start [0x6318] [(0, 0x00000001), (1, 0x00000800)] 0x00 []))
    [(0, 0x00000001), (1, 0x00000800)] 0x00 0x000102 [] = true := by decide

theorem test_T18_biand : gives (step (start [0x76A8] [(0, 0x00000000)] 0x01 []))
    [(0, 0x00000000)] 0x01 0x000102 [] = true := by decide

theorem test_T20_bior : gives (step (start [0x74A8] [(0, 0x00000000)] 0x00 []))
    [(0, 0x00000000)] 0x01 0x000102 [] = true := by decide

theorem test_T22_bixor : gives (step (start [0x75A8] [(0, 0x00000004)] 0x01 []))
    [(0, 0x00000004)] 0x01 0x000102 [] = true := by decide

theorem test_T15_bist : gives (step (start [0x67B8] [] 0x00 []))
    [(0, 0x00000008)] 0x00 0x000102 [] = true := by decide

theorem test_T26_bclr_memory : gives (step (start [0x7D10, 0x7200] [(1, 0x0000F800)] 0x00 [(0xF800, 0xFF)]))
    [(1, 0x0000F800)] 0x00 0x000104 [(0xF800, 0xFE)] = true := by decide

theorem test_T29_bld_memory : gives (step (start [0x7C10, 0x7770] [(1, 0x0000F800)] 0x00 [(0xF800, 0x80)]))
    [(1, 0x0000F800)] 0x01 0x000104 [] = true := by decide

theorem test_C9_bne_not_taken : gives (step (start [0x5860, 0xFFFC] [] 0x04 []))
    [] 0x04 0x000104 [] = true := by decide

theorem test_B5_bgt_taken : gives (step (start [0x4E10] [] 0x0A []))
    [] 0x0A 0x000112 [] = true := by decide

theorem test_C18_jmp_memory_indirect : gives (step (start [0x5B02] [] 0x00 [(0x0002, 0x12), (0x0003, 0x34)]))
    [] 0x00 0x001234 [] = true := by decide

theorem test_C24_jsr_memory_indirect : gives (step (start [0x5F04] [(7, 0x0000FF80)] 0x00 [(0x0004, 0x02), (0x0005, 0x00)]))
    [(7, 0x0000FF7E)] 0x00 0x000200 [(0xFF7E, 0x01), (0xFF7F, 0x02)] = true := by decide

theorem test_rts : gives (step (start [0x5470] [(7, 0x0000FF7E)] 0x00 [(0xFF7E, 0x12), (0xFF7F, 0x34)]))
    [(7, 0x0000FF80)] 0x00 0x001234 [] = true := by decide

theorem test_rte : gives (step (start [0x5670] [(7, 0x0000FF7C)] 0x00 [(0xFF7C, 0xA5), (0xFF7D, 0x5A), (0xFF7E, 0x12), (0xFF7F, 0x34)]))
    [(7, 0x0000FF80)] 0x5A 0x001234 [] = true := by decide

theorem test_stc_memory : gives (step (start [0x0140, 0x6DF0] [(7, 0x0000FF80)] 0xA5 []))
    [(7, 0x0000FF7E)] 0xA5 0x000104 [(0xFF7E, 0xA5), (0xFF7F, 0xA5)] = true := by decide

theorem test_ldc_odd_address : gives (step (start [0x0140, 0x6910] [(1, 0x0000F801)] 0x00 [(0xF800, 0x3C), (0xF801, 0x12)]))
    [(1, 0x0000F801)] 0x3C 0x000104 [] = true := by decide

theorem test_trapa : gives (step (start [0x5720] [(7, 0x0000FF80)] 0x80 []))
    [(7, 0x0000FF80)] 0x80 0x000102 [(0xFF7E, 0x00), (0xFF7F, 0x00)] = true := by decide

theorem test_sleep : gives (step (start [0x0180] [] 0x80 []))
    [] 0x80 0x000102 [] = true := by decide

theorem test_S6_eepmov : gives (step (start [0x7B5C, 0x598F] [(4, 0x00000004), (5, 0x0000F900), (6, 0x0000FA00)] 0x00 [(0xF900, 0x11), (0xF901, 0x22), (0xF902, 0x33), (0xF903, 0x44)]))
    [(4, 0x00000000), (5, 0x0000F904), (6, 0x0000FA04)] 0x00 0x000104 [(0xFA00, 0x11), (0xFA01, 0x22), (0xFA02, 0x33), (0xFA03, 0x44)] = true := by decide

/-- Scenario 1: the vector word, and a NOP there. -/
theorem test_scenario1_reset_vector :
    gives (step ((State.reset.poke 0 0x12).poke 1 0x34)) [] 0x80 0x1236 [] = true := by decide

/-- An undefined opcode under the default policy, and under the fault policy (R301). -/
theorem test_undefined_nop_advance : gives (step (start [0x0123] [] 0 [])) [] 0 0x102 [] = true := by decide

theorem test_undefined_fault :
    (match step { start [0x0123] [] 0 [] with params := { Config.defaults with undefinedOpcode := .fault } } with
     | .fault (.undefinedOpcode a w) => decide (a = 0x100) && decide (w = 0x0123)
     | .next _ => false
     | .refused _ => false) = true := by decide

/-- Placing an instruction at reset: the next step runs it. -/
theorem test_withFetchWord_runs :
    gives (step (State.reset.withFetchWord 16 0xF842)) [(0, 0x42)] 0x80 0x102 [] = true := by decide

/-- Scenario 5: SSTDR written while Idle; the last two of 2048 cycles (CKS = 0). -/
theorem test_scenario5_start : ((Ssu.reset Config.defaults).write .sstdr 0x5A).sssr = 0x04
    ∧ ((Ssu.reset Config.defaults).write .sstdr 0x5A).sstrsr = 0x5A := by decide

theorem test_scenario5_last_cycle :
    (({ Ssu.reset Config.defaults with sssr := 0x04, bitCounter := 7, clockCounter := 255 } : Ssu).cycle 0xFF)
      = { Ssu.reset Config.defaults with sssr := 0x0E, ssrdr := 0xFF } := by decide

/-- Vector A-84 under both settings of `divxs_n_rule` (decision D28). -/
theorem test_A84_divxs_n_rule :
    gives (step (start [0x01D0, 0x5110] [(0, 0xFFFF), (1, 0x200)] 0 [])) [(0, 0xFF00), (1, 0x200)] 0x00 0x104 [] = true
    ∧ gives (step { start [0x01D0, 0x5110] [(0, 0xFFFF), (1, 0x200)] 0 [] with
        params := { Config.defaults with divxsN := .operandSignXor } })
      [(0, 0xFF00), (1, 0x200)] 0x08 0x104 [] = true := by decide

/-! ## Hypotheses that can be met -/

/-- A state with pointers into RAM, the stack at its top and decimal digits in R0. -/
def sample : State :=
  { State.reset with
      initialized := true, pc := 0x100, ccr := 0x00
      er := #v[0x00001927, 0x0000F780, 0x00000003, 0x12345678, 0x00000003, 0x0000F780, 0x0000FF7D, 0x0000FF80] }

/-- The same with the open results left open, the fault policy and the other N rule of DIVXS. -/
def sampleOpen : State :=
  { sample with
      params := ⟨0x0C, 0xFF, 0xFF, .fault, .operandSignXor, .anyValue, .anyValue, .anyValue⟩ }

/-- The same with functions passed for the open results. -/
def sampleGiven : State :=
  { sample with
      params := { Config.defaults with
        daaAdjust := .given [(⟨false, false, 0x27⟩, ⟨0x01, true⟩)]
        dasAdjust := .given [(⟨false, false, 0x9A⟩, ⟨0x01, true⟩)]
        divCorner := .given [(⟨false, false, 0x1927, 0⟩, 0xABCD1234), (⟨true, true, 0x12345678, 3⟩, 0xCAFEBABE)] } }

/-- DAA and a divide by zero where a function is passed: its value, and the flags of R185 and R190. -/
theorem test_given_daa : gives (step { start [0x0F08] [(0, 0x27)] 0x22 [] with params := sampleGiven.params })
    [(0, 0x2D)] 0x22 0x102 [] = true
    ∧ gives (step { start [0x0F08] [(0, 0x27)] 0x02 [] with params := sampleGiven.params })
      [(0, 0x28)] 0x03 0x102 [] = true := by decide

theorem test_given_divide : gives (step { start [0x5120] [(0, 0x1927)] 0x00 [] with params := sampleGiven.params })
    [(0, 0x1234)] 0x04 0x102 [] = true := by decide

/-- A ROM image has 49,152 bytes (U19). -/
theorem test_image_size : RomImage.ofBytes [0x12, 0x34] = none := by decide

theorem witness_ResetState : State.reset ≠ sample ∧ State.reset.rom = sample.rom ∧ State.reset.params = sample.params := by decide

theorem witness_inv_sample : Inv sample := ⟨by decide, by decide, by decide, by decide, by decide, by decide⟩

/-- The invariant at the ends of its ranges. -/
theorem witness_inv_edge : Inv { sample with pc := 0x00FFFFFF, ssu := { sample.ssu with sssr := 0x4F, bitCounter := 7, clockCounter := 255 } } := ⟨by decide, by decide, by decide, by decide, by decide, by decide⟩

theorem witness_ResetMeetsInvariant : Inv sample ∧ sample.params.sssrReset &&& 0xB0 = 0 := ⟨witness_inv_sample, by decide⟩

/-- Whether an outcome is a next state. -/
def isNext (o : Host.Outcome State Fault Refusal) : Bool :=
  match o with
  | .next _ => true
  | .fault _ => false
  | .refused _ => false

theorem exists_next {o : Host.Outcome State Fault Refusal} (h : isNext o = true) : ∃ t, o = .next t := by
  cases o with
  | next t => exact ⟨t, rfl⟩
  | fault r => cases h
  | refused r => cases h

theorem witness_StepKeepsInvariant : Inv sample ∧ ∃ t, step sample = .next t := ⟨witness_inv_sample, exists_next (by decide)⟩

theorem witness_FirstStepLoadsVector : State.reset.initialized = false ∧ sample.initialized = true := by decide

theorem witness_StepRunsDecodedInstruction : (start [0x0140, 0x7810, 0x6BA0, 0x0000, 0x0008] [] 0 []).initialized = true
    ∧ (start [0x0140, 0x7810, 0x6BA0, 0x0000, 0x0008] [] 0 []).fetchedWords 5 = [0x0140, 0x7810, 0x6BA0, 0x0000, 0x0008]
    ∧ decode [0x0140, 0x7810, 0x6BA0, 0x0000, 0x0008] = .instr (.stc_d24 8 1) 5 := by decide

/-- Fetches that end just before SSRDR, one that begins just after it, and one that covers it. -/
theorem witness_fetch_quiet : 1 ≤ maxWords ∧ (∀ k < maxWords, ¬ touchesW ((0xF0DE : Word) + BitVec.ofNat 16 (2 * k)))
    ∧ ¬ touchesW ((0xF0EA : Word) + BitVec.ofNat 16 (2 * 0)) ∧ touchesW ((0xF0E9 : Word) + BitVec.ofNat 16 (2 * 0)) := by decide

theorem witness_tick : ∃ t, tick (.next sample) = .next t := ⟨_, rfl⟩

theorem witness_UndefinedOpcodeStep : (start [0x7820, 0x6AA8, 0x0100] [] 0 []).initialized = true
    ∧ (start [0x7820, 0x6AA8, 0x0100] [] 0 []).fetchedWords 3 = [0x7820, 0x6AA8, 0x0100]
    ∧ decode [0x7820, 0x6AA8, 0x0100] = .undefinedOpcode
    ∧ (∀ k < 3, decode ([0x7820, 0x6AA8, 0x0100].take k) = .needMore)
    ∧ (start [0x7820, 0x6AA8, 0x0100] [] 0 []).params.undefinedOpcode = .nopAdvance2
    ∧ sampleOpen.params.undefinedOpcode = .fault := by decide

theorem witness_StepAlwaysAnswers : sample.params.undefinedOpcode = .nopAdvance2
    ∧ ∃ f, step ({ start [0x0001] [] 0 [] with params := sampleOpen.params } : State) = .fault f := ⟨by decide, ⟨_, rfl⟩⟩

theorem witness_StepKeepsRomAndParameters : (∃ t, step sample = .next t) ∧ (∃ t, exec .nop sampleOpen = .next t) ∧ hasOpenResult .nop = false
    ∧ (∃ t, exec (.daa 0) sampleGiven = .next t) ∧ sampleGiven.params.daaAdjust ≠ .anyValue
    ∧ sampleGiven.params.dasAdjust ≠ .anyValue ∧ sampleGiven.params.divCorner ≠ .anyValue :=
  ⟨exists_next (by decide), ⟨_, rfl⟩, rfl, ⟨_, rfl⟩, by decide, by decide, by decide⟩

theorem witness_MaskBitsChangeOnlyWithAllOfCcr : writesAllOfCcr .rts = false ∧ ∃ t, exec .rts sample = .next t := ⟨rfl, ⟨_, rfl⟩⟩

theorem witness_DecodeEncode : (Instr.ldc_d24 0x00FFFFFF 7).wellFormed = true ∧ (Instr.ldc_d24 0 0).wellFormed = true := by decide

theorem witness_EncodeDecode : decode [0xF842, 0x0000] = .instr (.movB_imm_rd 0x42 8) 1 := by decide

theorem witness_EncodingsUnambiguous : encode (.movB_imm_rd 0x42 8) ++ [0x0001] = encode (.movB_imm_rd 0x42 8) ++ [0x0001]
    ∧ (Instr.movB_imm_rd 0x42 8).wellFormed = true := ⟨rfl, rfl⟩

theorem witness_AddressMap : InRom 0x0000 ∧ InRom 0xBFFF ∧ ¬ InRom 0xC000 ∧ InRam 0xF780 ∧ InRam 0xFF7F ∧ ¬ InRam 0xF77F ∧ ¬ InRam 0xFF80
    ∧ (¬ InRom 0xF0E5 ∧ ¬ InRam 0xF0E5 ∧ ¬ InSsu 0xF0E5 ∧ ¬ InFlash 0xF0E5) := by decide

theorem witness_RamReadsBack : InRam 0xF780 ∧ (0xF781 : Word) ≠ 0xF780 ∧ InRam (evenAddr 0xFF7F) ∧ (0xFF80 : Word) ≠ evenAddr 0xFF7F
    ∧ (0xFF80 : Word) ≠ oddAddr 0xFF7F := by decide

theorem witness_OpenBusReadsOnes : decodeAddr 0xC000 = .openBus ∧ decodeAddr 0xFFFF = .openBus
    ∧ decodeAddr (evenAddr 0xFF80) = .openBus ∧ decodeAddr (oddAddr 0xFF80) = .openBus
    ∧ decodeAddr (evenAddr (0xFF80 + 2)) = .openBus ∧ decodeAddr (oddAddr (0xFF80 + 2)) = .openBus
    ∧ (0xF100 ≤ (0xF77F : Word).toNat ∧ (0xF77F : Word).toNat ≤ 0xF77F) := by decide

theorem witness_RomImageAndFlash : InRom 0xBFFF ∧ (0xBFFF : Word).toNat < 49152 ∧ ¬ InRom 0xC000 ∧ InFlash 0xF02B
    ∧ Inv sample ∧ ([] : List Byte).length ≠ 49152 ∧ (List.replicate 49152 (0 : Byte)).length = 49152 :=
  ⟨by decide, by decide, by decide, by decide, witness_inv_sample, by decide, List.length_replicate ..⟩

theorem witness_WideAccessIgnoresBitZero : (0x0101 : Word).getLsbD 0 = true ∧ ({ sample with pc := 0x101 } : State).pc16 = 0x0101 := by decide

theorem witness_LongAccessBigEndian : (0xF780 : Word).getLsbD 0 = false ∧ InRam 0xF780 ∧ InRam (0xF780 + 2) ∧ InRam (0xFF7C + 2)
    ∧ (0xF77F : Word) ≠ 0xF780 ∧ (0xF784 : Word) ≠ 0xF780 + 3 := by decide

theorem witness_SsuRegisterAccess : (sample.write8 0xF0E4 0x0C).ssu.sssr.getLsbD 3 = true := by decide

theorem witness_SstdrWrite : sample.ssu.sssr.getLsbD 3 = true ∧ ({ sample.ssu with sssr := 0x04 } : Ssu).sssr.getLsbD 3 = false := by decide

/-- The unit in the middle of a byte. -/
def sampleSsu : Ssu := { sample.ssu with sssr := 0x04, bitCounter := 7, clockCounter := 255 }

theorem witness_SsuCycle : sample.ssu.sssr.getLsbD 3 = true ∧ sampleSsu.sssr.getLsbD 3 = false
    ∧ (if 256 ≤ sampleSsu.clockCounter + 2 ^ (sampleSsu.ssmr.toNat % 8) then sampleSsu.bitCounter + 1
        else sampleSsu.bitCounter) = 8
    ∧ (if 256 ≤ 254 + 2 ^ (sampleSsu.ssmr.toNat % 8) then sampleSsu.bitCounter + 1 else sampleSsu.bitCounter) ≠ 8 := by decide

theorem witness_SsuByteTime : sample.ssu.tend = true ∧ (2047 < 2048 >>> sample.ssu.cks) ∧ (0 < 2048 >>> ({ sample.ssu with ssmr := 7 } : Ssu).cks) := by decide

theorem witness_ByteLoads : (∃ aa, Instr.movfpe_aa16_rd 0xF780 8 = .movfpe_aa16_rd aa 8 ∧ (0xF780 : Word) = eaAa16 aa)
    ∧ ∃ ers, Instr.movB_ind_rd 1 8 = .movB_ind_rd ers 8 ∧ (0xF780 : Word) = sample.eaInd ers := ⟨⟨_, rfl, rfl⟩, ⟨_, rfl, by decide⟩⟩

theorem witness_WordLoads : ∃ d ers, Instr.movW_d16_rd 2 1 8 = .movW_d16_rd d ers 8 ∧ (0xF782 : Word) = sample.eaD16 d ers := ⟨2, 1, rfl, by decide⟩

theorem witness_LongLoads : ∃ d ers, Instr.movL_d24_erd 0xFFFFFF 1 2 = .movL_d24_erd d ers 2 ∧ (0xF77F : Word) = sample.eaD24 d ers := ⟨0xFFFFFF, 1, rfl, by decide⟩

theorem witness_ByteStores : ∃ aa, Instr.movB_rs_aa8 8 0x7F = .movB_rs_aa8 8 aa ∧ (0xFF7F : Word) = eaAa8 aa := ⟨0x7F, rfl, by decide⟩

theorem witness_WordStores : ∃ aa, Instr.movW_rs_aa24 8 0xFF7E = .movW_rs_aa24 8 aa ∧ (0xFF7E : Word) = eaAa24 aa := ⟨0xFF7E, rfl, by decide⟩

theorem witness_LongStores : ∃ erd, Instr.movL_ers_ind 2 1 = .movL_ers_ind 2 erd ∧ (0xF780 : Word) = sample.eaInd erd := ⟨1, rfl, by decide⟩

theorem witness_PreDecrementStores : ∃ v, v = (sample.setReg 7 (sample.reg 7 - 1)).r8 7 ∧ ∃ u, u = (sample.setReg 7 (sample.reg 7 - 2)).r16 7
    ∧ ∃ x, x = (sample.setReg 7 (sample.reg 7 - 4)).reg 7 := ⟨_, rfl, _, rfl, _, rfl⟩

theorem witness_AddAndSubtractWithCarry : ∃ r : Byte, r = sample.r8 8 + 1 + (if sample.flag .c then 1 else 0) := ⟨_, rfl⟩

theorem witness_IncrementAndDecrement : (2 : Word) = 2 ∧ Instr.incW_2 8 = .incW_2 8 ∧ Instr.decW_2 8 = .decW_2 8 ∧ Instr.incL_2 1 = .incL_2 1
    ∧ Instr.decL_1 1 = .decL_1 1 := ⟨rfl, rfl, rfl, rfl, rfl⟩

/-- The defaults and the free setting contradict no table. -/
theorem witness_follows : FollowsTable sample.params.daaAdjust daaTable ∧ FollowsTable sampleOpen.params.dasAdjust dasTable :=
  ⟨fun _ _ _ _ h => (nomatch h), fun _ _ _ _ h => (nomatch h)⟩

/-- Nor does a function passed that lists a byte outside the table of DAS. -/
theorem witness_follows_given : FollowsTable sampleGiven.params.dasAdjust dasTable := by
  rintro k x v ht ⟨t, h, hv⟩
  cases h
  by_cases hk : k = ⟨false, false, 0x9A⟩
  · subst hk
    have : tableAdjust dasTable ⟨false, false, 0x9A⟩ = none := by decide
    rw [this] at ht; cases ht
  · rw [List.lookup_cons, beq_false_of_ne hk] at hv; cases hv

theorem witness_DecimalAdjust : tableAdjust daaTable ⟨false, false, 0x9A⟩ = some ⟨0x66, true⟩
    ∧ tableAdjust daaTable ⟨false, false, 0x99⟩ = some ⟨0, false⟩
    ∧ tableAdjust dasTable ⟨false, true, 0x06⟩ = some ⟨0xFA, false⟩
    ∧ sampleGiven.params.daaAdjust ≠ .anyValue
    ∧ DefaultAt sample.params.daaAdjust ⟨sample.flag .c, sample.flag .h, sample.r8 8⟩
    ∧ DefaultAt sampleGiven.params.dasAdjust ⟨sampleGiven.flag .c, sampleGiven.flag .h, sampleGiven.r8 8⟩
    ∧ GivenAt sampleGiven.params.daaAdjust ⟨sampleGiven.flag .c, sampleGiven.flag .h, sampleGiven.r8 8⟩ ⟨0x01, true⟩ :=
  ⟨by decide, by decide, by decide, by decide, .inl rfl, .inr ⟨_, rfl, by decide⟩, ⟨_, rfl, by decide⟩⟩

theorem witness_DecimalSums : isBcd (sample.r8 8) = true ∧ isBcd (sample.r8 0) = true ∧ isBcd 0x99 = true ∧ isBcd 0x9A = false
    ∧ FollowsTable sample.params.daaAdjust daaTable ∧ FollowsTable sampleGiven.params.dasAdjust dasTable :=
  ⟨by decide, by decide, by decide, by decide, witness_follows.1, witness_follows_given⟩

theorem witness_Multiply : ∃ p : Int, p = ((sample.r16 0).extractLsb' 0 8).toInt * (sample.r8 0).toInt := ⟨_, rfl⟩

theorem witness_DivideUnsigned : (∃ n m : Nat, n = (sample.r16 0).toNat ∧ m = (sample.r8 8).toNat ∧ m ≠ 0 ∧ n / m ≤ 0xFF)
    ∧ (sample.r8 1 = 0xF7 ∧ (sample.r8 9).toNat = 0x80 ∧ (sample.r8 2).toNat = 0)
    ∧ (0x7FFF / 0x80 = 0xFF ∧ 0x8000 / 0x80 = 0x100) ∧ DefaultAt sample.params.divCorner ⟨false, false, (sample.r16 0).setWidth 32, (sample.r8 2).setWidth 16⟩
    ∧ sampleGiven.params.divCorner ≠ .anyValue
    ∧ GivenAt sampleGiven.params.divCorner ⟨false, false, (sampleGiven.r16 0).setWidth 32, (sampleGiven.r8 2).setWidth 16⟩ 0xABCD1234
    ∧ (∃ n m : Nat, n = (sample.reg 0).toNat ∧ m = (sample.r16 2).toNat ∧ m ≠ 0 ∧ n / m ≤ 0xFFFF) := ⟨⟨_, _, rfl, rfl, by decide, by decide⟩, by decide, by decide, .inl rfl, by decide, ⟨_, rfl, by decide⟩, ⟨_, _, rfl, rfl, by decide, by decide⟩⟩

theorem witness_DivideSigned : (∃ n m : Int, n = (sample.r16 2).toInt ∧ m = (sample.r8 8).toInt ∧ m ≠ 0 ∧ -128 ≤ n.tdiv m ∧ n.tdiv m ≤ 127)
    ∧ (sample.r8 2).toInt = 0 ∧ (Int.tdiv (-256) 2 = -128 ∧ Int.tdiv (-257) 2 = -128 ∧ Int.tdiv (-258) 2 = -129)
    ∧ sample.params.divxsN = .quotientSign ∧ sampleOpen.params.divxsN = .operandSignXor
    ∧ DefaultAt sampleGiven.params.divCorner ⟨true, true, sampleGiven.reg 0, sampleGiven.r16 2⟩
    ∧ GivenAt sampleGiven.params.divCorner ⟨true, true, sampleGiven.reg 3, sampleGiven.r16 2⟩ 0xCAFEBABE
    ∧ 32767 < (sampleGiven.reg 3).toInt.tdiv (sampleGiven.r16 2).toInt ∧ (sampleGiven.r16 2).toInt ≠ 0 :=
  ⟨⟨_, _, rfl, rfl, by decide, by decide, by decide⟩, by decide, by decide, rfl, rfl, .inr ⟨_, rfl, by decide⟩,
    ⟨_, rfl, by decide⟩, by decide, by decide⟩

theorem witness_Logic : (∃ imm, Instr.andB_imm_rd 0x0F 8 = .andB_imm_rd imm 8 ∧ (0x07 : Byte) = sample.r8 8 &&& imm)
    ∧ (∃ rs, Instr.orW_rs_rd 0 0 = .orW_rs_rd rs 0 ∧ sample.r16 0 = sample.r16 0 ||| sample.r16 rs)
    ∧ (Instr.notL 0 = .notL 0 ∧ (0xFFFFE6D8 : Long) = ~~~(sample.reg 0)) := ⟨⟨0x0F, rfl, by decide⟩, ⟨0, rfl, by decide⟩, rfl, by decide⟩

theorem witness_ShiftsRotates : (Instr.shalB 8 = .shalB 8 ∧ (0x4E : Byte) = sample.r8 8 <<< 1
      ∧ false = ((sample.r8 8).getLsbD 7 != (sample.r8 8).getLsbD 6) ∧ false = (sample.r8 8).getLsbD 7)
    ∧ (Instr.rotrW 0 = .rotrW 0 ∧ (0x8C93 : Word) = (sample.r16 0).rotateRight 1 ∧ true = (sample.r16 0).getLsbD 0)
    ∧ (Instr.rotxrL 0 = .rotxrL 0
      ∧ (0x00000C93 : Long) = BitVec.ofBool (sample.flag .c) ++ (sample.reg 0).extractLsb' 1 31
      ∧ true = (sample.reg 0).getLsbD 0) := ⟨⟨rfl, by decide, by decide, by decide⟩, ⟨rfl, by decide, by decide⟩, rfl, by decide, by decide⟩

theorem witness_BitWritesRegister : (∃ bit : BitVec 3, 7 = bit.toNat ∧ Instr.bset_imm_rd 7 8 = .bset_imm_rd bit 8)
    ∧ ∃ rn : Reg4, 7 = (sample.r8 rn).toNat % 8 ∧ Instr.bclr_rn_rd 8 0 = .bclr_rn_rd rn 0 := ⟨⟨7, rfl, rfl⟩, ⟨8, by decide, rfl⟩⟩

theorem witness_BitWritesMemory : (∃ (bit : BitVec 3) (erd : Reg3), 0 = bit.toNat ∧ (0xF780 : Word) = sample.eaInd erd
      ∧ Instr.bst_imm_ind 0 1 = .bst_imm_ind bit erd ∧ false = sample.flag .c)
    ∧ ∃ (rn : Reg4) (aa : Byte), 7 = (sample.r8 rn).toNat % 8 ∧ (0xFFFF : Word) = eaAa8 aa
      ∧ Instr.bnot_rn_aa8 8 0xFF = .bnot_rn_aa8 rn aa ∧ false = !(sample.read8 0xFFFF).1.getLsbD 7 := ⟨⟨0, 1, rfl, by decide, rfl, by decide⟩, ⟨8, 0xFF, by decide, by decide, rfl, by decide⟩⟩

theorem witness_BitTests : (∃ bit : BitVec 3, Instr.btst_imm_rd 7 8 = .btst_imm_rd bit 8 ∧ 7 = bit.toNat)
    ∧ ∃ (rn : Reg4) (erd : Reg3), Instr.btst_rn_ind 8 1 = .btst_rn_ind rn erd ∧ 7 = (sample.r8 rn).toNat % 8
      ∧ (0xF780 : Word) = sample.eaInd erd := ⟨⟨7, rfl, rfl⟩, ⟨8, 1, rfl, by decide, by decide⟩⟩

theorem witness_BitLogicIntoCarry : ((true = (sample.r8 8).getLsbD (2 : BitVec 3).toNat) ∧ Instr.bild_imm_rd 2 8 = .bild_imm_rd 2 8 ∧ false = !true)
    ∧ (true = (sample.read8 0xFFFF).1.getLsbD (7 : BitVec 3).toNat
      ∧ ∃ aa : Byte, (0xFFFF : Word) = eaAa8 aa ∧ Instr.bor_imm_aa8 7 0xFF = .bor_imm_aa8 7 aa
        ∧ true = (sample.flag .c || true)) := ⟨by decide, by decide, 0xFF, by decide, rfl, by decide⟩

/-- Each condition holds in one of these states and, but for the constant two, fails in another. -/
theorem witness_Branches : List.all [Cond.hi, .cc, .ne, .vc, .pl, .ge, .gt, .ra] (fun c => sample.holds c) = true
    ∧ List.all [Cond.hi, .cc, .ne, .vc, .pl, .ge, .gt, .rn]
        (fun c => !({ sample with ccr := 0x0D } : State).holds c || c == .vc) = true
    ∧ ({ sample with ccr := 0x02 } : State).holds .vc = false
    ∧ List.all [Cond.ls, .cs, .eq, .mi, .lt, .le] (fun c => ({ sample with ccr := 0x0D } : State).holds c && !sample.holds c)
        = true
    ∧ ({ sample with ccr := 0x02 } : State).holds .vs = true ∧ sample.holds .vs = false := by decide

theorem witness_JumpsAndCalls : (∃ aa : Byte, Instr.jmp_memInd 0xFF = .jmp_memInd aa
      ∧ (0 : Long) = (wordAt sample (aa.setWidth 16)).setWidth 32)
    ∧ ∃ d : Word, Instr.bsr_d16 0x8000 = .bsr_d16 d ∧ (0xFFFF8100 : Long) = sample.pc + d.signExtend 32 := ⟨⟨0xFF, rfl, by decide⟩, ⟨0x8000, rfl, by decide⟩⟩

theorem witness_StackRoundTrips : InRam (evenAddr ((sample.reg 7 - 2).setWidth 16)) ∧ InRam (evenAddr ((sample.reg 7 - 4).setWidth 16))
    ∧ viewReg 6 ≠ 7 ∧ viewReg 8 ≠ 7 ∧ viewReg 15 = 7 ∧ (6 : Reg3) ≠ 7
    ∧ InRam (evenAddr (((sample.setReg 7 0xF782).reg 7 - 2).setWidth 16))
    ∧ ∃ d, Instr.bsr_d8 0x80 = .bsr_d8 d := ⟨by decide, by decide, by decide, by decide, by decide, by decide, by decide, 0x80, rfl⟩

theorem witness_CcrAndMemory : (∃ ers, Instr.ldc_ind 1 = .ldc_ind ers ∧ (0xF780 : Word) = sample.eaInd ers)
    ∧ ∃ aa, Instr.stc_aa24 0x00FFFFFF = .stc_aa24 aa ∧ (0xFFFF : Word) = eaAa24 aa := ⟨⟨1, rfl, by decide⟩, ⟨0x00FFFFFF, rfl, by decide⟩⟩

/-- A block of three bytes that ends at the last byte of RAM, and does not overlap. -/
theorem witness_BlockMove : Instr.eepmovB = .eepmovB ∧ 3 = (sample.r8 12).toNat ∧ (0xF780 : Word) = sample.eaInd 5
    ∧ (0xFF7D : Word) = sample.eaInd 6
    ∧ (∀ k < 3, InRam ((0xFF7D : Word) + BitVec.ofNat 16 k) ∧ ¬ InSsu ((0xFF7D : Word) + BitVec.ofNat 16 k))
    ∧ (∀ k < 3, (0xF780 : Word) + BitVec.ofNat 16 k ≠ 0xF0E9)
    ∧ (∀ k < 3, ∀ j < k, (0xF780 : Word) + BitVec.ofNat 16 k ≠ (0xFF7D : Word) + BitVec.ofNat 16 j) := by decide

/-- A block moved up by one byte, by EEPMOV.W. -/
theorem witness_BlockMove_replicating : (0xF781 : Word) = (sample.setReg 6 0xF781).eaInd 6 ∧ Instr.eepmovW = .eepmovW
    ∧ 3 = ((sample.setReg 6 0xF781).r16 4).toNat ∧ ((0xF781 : Word) - (sample.setReg 6 0xF781).eaInd 5).toNat = 1
    ∧ (∀ k < 3, InRam ((0xF781 : Word) + BitVec.ofNat 16 k)) := by decide

/-- A block from the end of open bus over SSRDR, to RAM, and one from RAM over SSTDR: no byte is overwritten before it is
read. -/
theorem witness_BlockMove_ssu : (0xF0E8 : Word) + BitVec.ofNat 16 1 = 0xF0E9
    ∧ (∀ k < 3, ¬ InSsu ((0xFF7D : Word) + BitVec.ofNat 16 k))
    ∧ (∀ k < 3, ∀ j < k, (0xF0E8 : Word) + BitVec.ofNat 16 k ≠ (0xFF7D : Word) + BitVec.ofNat 16 j)
    ∧ InSsu ((0xF0EA : Word) + BitVec.ofNat 16 1)
    ∧ (∀ k < 3, ∀ j < k, (0xF780 : Word) + BitVec.ofNat 16 k ≠ (0xF0EA : Word) + BitVec.ofNat 16 j) := by decide

/-- EEPMOV from SSRDR to SSTDR while Idle: RDRF is cleared and a transfer starts. -/
theorem test_eepmov_ssu :
    (match exec .eepmovB { sample with
        er := regsOf [(4, 1), (5, 0xF0E9), (6, 0xF0EB)]
        ssu := { sample.ssu with sssr := 0x0E, ssrdr := 0x5A } } with
     | .next t => decide (t.ssu.sssr = 0x04) && decide (t.ssu.sstdr = 0x5A) && decide (t.ssu.sstrsr = 0x5A)
     | .fault _ => false
     | .refused _ => false) = true := by decide

end Sys2Proof.Tests
end

section
/-! SUPPORT. What an instruction can do to the state, said once: a chain of elementary updates. From it follow the
frame and invariant claims over all instructions (10_state.md rules R30, R33, R46). -/

namespace Sys2Proof.Machine

/-! ## Chains of elementary updates -/

/-- The three bits of CCR that no flag computation reaches (R30). -/
def Flag.isMask : Flag → Bool
  | .i | .ui | .u => true
  | .h | .n | .z | .v | .c => false

/-- `t` comes from `s` by elementary updates. CCR is written whole only if `all` holds, otherwise flag by flag and the
mask bits never; a free value is taken only if `free` holds. -/
inductive Updates (all free : Prop) (s : State) : State → Prop
  | refl : Updates all free s s
  | setReg {t : State} (h : Updates all free s t) (n : Reg3) (v : Long) : Updates all free s (t.setReg n v)
  | setPc {t : State} (h : Updates all free s t) (a : Long) : Updates all free s (t.setPc a)
  | setFlag {t : State} (h : Updates all free s t) (f : Flag) (x : Bool) (hf : f.isMask = false) :
      Updates all free s (t.setFlag f x)
  | setCcr {t : State} (h : Updates all free s t) (ha : all) (v : Byte) : Updates all free s (t.setCcr v)
  | read8 {t : State} (h : Updates all free s t) (a : Word) : Updates all free s (t.read8 a).2
  | write8 {t : State} (h : Updates all free s t) (a : Word) (v : Byte) : Updates all free s (t.write8 a v)
  | takeFree {t : State} (h : Updates all free s t) (hf : free) : Updates all free s t.takeFree.2

namespace Updates

variable {all free all' free' : Prop} {s t u : State}

theorem mono (h : Updates all free s t) (ha : all → all') (hf : free → free') : Updates all' free' s t := by
  induction h with
  | refl => exact .refl
  | setReg _ n v ih => exact ih.setReg n v
  | setPc _ a ih => exact ih.setPc a
  | setFlag _ f x hm ih => exact ih.setFlag f x hm
  | setCcr _ hall v ih => exact ih.setCcr (ha hall) v
  | read8 _ a ih => exact ih.read8 a
  | write8 _ a v ih => exact ih.write8 a v
  | takeFree _ hfree ih => exact ih.takeFree (hf hfree)

theorem trans (h : Updates all free s t) (k : Updates all free t u) : Updates all free s u := by
  induction k with
  | refl => exact h
  | setReg _ n v ih => exact ih.setReg n v
  | setPc _ a ih => exact ih.setPc a
  | setFlag _ f x hm ih => exact ih.setFlag f x hm
  | setCcr _ hall v ih => exact ih.setCcr hall v
  | read8 _ a ih => exact ih.read8 a
  | write8 _ a v ih => exact ih.write8 a v
  | takeFree _ hfree ih => exact ih.takeFree hfree

/-! ## What every chain keeps -/

/-- A chain keeps the invariant (R46). -/
theorem inv (h : Updates all free s t) (hs : Inv s) : Inv t := by
  induction h with
  | refl => exact hs
  | setReg _ n v ih => exact ih.setReg n v
  | setPc _ a ih => exact ih.setPc a
  | setFlag _ f x hm ih => exact ih.of_fields rfl rfl rfl rfl
  | setCcr _ hall v ih => exact ih.of_fields rfl rfl rfl rfl
  | read8 _ a ih => exact ih.read8 a
  | write8 _ a v ih => exact ih.write8 a v
  | takeFree _ hfree ih => exact ih.of_fields rfl rfl rfl rfl

/-- A chain keeps the ROM image, the parameters and `initialized`, and the count of free values does not fall
(R33, R47, R32). -/
theorem keeps (h : Updates all free s t) :
    t.rom = s.rom ∧ t.params = s.params ∧ t.initialized = s.initialized ∧ s.freeIndex ≤ t.freeIndex := by
  induction h with
  | refl => exact ⟨rfl, rfl, rfl, Nat.le_refl _⟩
  | setReg _ n v ih => exact ih
  | setPc _ a ih => exact ih
  | setFlag _ f x hm ih => exact ih
  | setCcr _ hall v ih => exact ih
  | @read8 t _ a ih =>
    have w := t.readWorld_read8 a
    obtain ⟨_, _, _, hi⟩ := t.read8_cpu a
    simpa only [w.rom, w.params, w.initialized, hi] using ih
  | write8 _ a v ih => simpa using ih
  | takeFree _ hfree ih =>
    obtain ⟨hr, hp, hn, hle⟩ := ih
    exact ⟨hr, hp, hn, Nat.le_succ_of_le hle⟩

/-- A chain that may take no free value leaves their count. -/
theorem freeIndex_eq (h : Updates all free s t) (hf : ¬ free) : t.freeIndex = s.freeIndex := by
  induction h with
  | refl => rfl
  | setReg _ n v ih => exact ih
  | setPc _ a ih => exact ih
  | setFlag _ f x hm ih => exact ih
  | setCcr _ hall v ih => exact ih
  | @read8 t _ a ih =>
    obtain ⟨_, _, _, hi⟩ := t.read8_cpu a
    exact hi.trans ih
  | write8 _ a v ih => simpa using ih
  | takeFree _ hfree ih => exact absurd hfree hf

/-- A chain that may not write CCR whole leaves the mask bits (R30). -/
theorem mask_eq (h : Updates all free s t) (ha : ¬ all) {g : Flag} (hg : g.isMask = true) :
    t.flag g = s.flag g := by
  induction h with
  | refl => rfl
  | setReg _ n v ih => exact ih
  | setPc _ a ih => exact ih
  | @setFlag t _ f x hm ih =>
    have hne : g ≠ f := by rintro rfl; cases hg.symm.trans hm
    rw [State.flag_setFlag, if_neg hne, ih]
  | setCcr _ hall v ih => exact absurd hall ha
  | @read8 t _ a ih =>
    obtain ⟨_, _, hc, _⟩ := t.read8_cpu a
    exact (State.flag_congr hc g).trans ih
  | write8 _ a v ih => simpa using ih
  | takeFree _ hfree ih => exact ih

/-! ## Each shared operation is a chain -/

theorem setR8 (h : Updates all free s t) (r : Reg4) (v : Byte) : Updates all free s (t.setR8 r v) := h.setReg _ _

theorem setR16 (h : Updates all free s t) (r : Reg4) (v : Word) : Updates all free s (t.setR16 r v) := h.setReg _ _

theorem bump (h : Updates all free s t) (n : Reg3) (k : Long) : Updates all free s (t.bump n k) := h.setReg _ _

theorem read16 (h : Updates all free s t) (a : Word) : Updates all free s (t.read16 a).2 := (h.read8 _).read8 _

theorem read32 (h : Updates all free s t) (a : Word) : Updates all free s (t.read32 a).2 := by
  have := (h.read16 a).read16 (a + 2)
  simpa only [State.read32] using this

theorem write16 (h : Updates all free s t) (a v : Word) : Updates all free s (t.write16 a v) :=
  (h.write8 _ _).write8 _ _

theorem write32 (h : Updates all free s t) (a : Word) (v : Long) : Updates all free s (t.write32 a v) :=
  (h.write16 _ _).write16 _ _

theorem setNZ (h : Updates all free s t) (n z : Bool) : Updates all free s (t.setNZ n z) :=
  (h.setFlag .n n rfl).setFlag .z z rfl

theorem logicN {w : Nat} (h : Updates all free s t) (r : BitVec w) : Updates all free s (t.logicN r) :=
  (h.setNZ _ _).setFlag .v false rfl

theorem incFlags {w : Nat} (h : Updates all free s t) (r : BitVec w) (v : Bool) :
    Updates all free s (t.incFlags r v) := (h.setNZ _ _).setFlag .v v rfl

theorem shiftFlags {w : Nat} (h : Updates all free s t) (x : ShiftResult w) :
    Updates all free s (t.shiftFlags x) := ((h.setNZ _ _).setFlag .v x.v rfl).setFlag .c x.c rfl

theorem extendFlags {w : Nat} (h : Updates all free s t) (r : BitVec w) :
    Updates all free s (t.extendFlags r) := (h.setNZ _ _).setFlag .v false rfl

theorem setArith (h : Updates all free s t) (f : ArithFlags) : Updates all free s (t.setArith f) :=
  ((((h.setFlag .h f.h rfl).setFlag .n f.n rfl).setFlag .z f.z rfl).setFlag .v f.v rfl).setFlag .c f.c rfl

theorem moveB (h : Updates all free s t) (rd : Reg4) (v : Byte) : Updates all free s (t.moveB rd v) :=
  (h.setR8 rd v).logicN v

theorem moveW (h : Updates all free s t) (rd : Reg4) (v : Word) : Updates all free s (t.moveW rd v) :=
  (h.setR16 rd v).logicN v

theorem moveL (h : Updates all free s t) (n : Reg3) (v : Long) : Updates all free s (t.moveL n v) :=
  (h.setReg n v).logicN v

theorem loadB (h : Updates all free s t) (ea : Word) (rd : Reg4) : Updates all free s (t.loadB ea rd) :=
  (h.read8 ea).moveB rd _

theorem loadW (h : Updates all free s t) (ea : Word) (rd : Reg4) : Updates all free s (t.loadW ea rd) :=
  (h.read16 ea).moveW rd _

theorem loadL (h : Updates all free s t) (ea : Word) (n : Reg3) : Updates all free s (t.loadL ea n) :=
  (h.read32 ea).moveL n _

theorem loadPostB (h : Updates all free s t) (ers : Reg3) (rd : Reg4) : Updates all free s (t.loadPostB ers rd) :=
  ((h.read8 _).bump ers 1).moveB rd _

theorem loadPostW (h : Updates all free s t) (ers : Reg3) (rd : Reg4) : Updates all free s (t.loadPostW ers rd) :=
  ((h.read16 _).bump ers 2).moveW rd _

theorem loadPostL (h : Updates all free s t) (ers erd : Reg3) : Updates all free s (t.loadPostL ers erd) :=
  ((h.read32 _).bump ers 4).moveL erd _

theorem storeB (h : Updates all free s t) (ea : Word) (v : Byte) : Updates all free s (t.storeB ea v) :=
  (h.write8 ea v).logicN v

theorem storeW (h : Updates all free s t) (ea v : Word) : Updates all free s (t.storeW ea v) :=
  (h.write16 ea v).logicN v

theorem storeL (h : Updates all free s t) (ea : Word) (v : Long) : Updates all free s (t.storeL ea v) :=
  (h.write32 ea v).logicN v

theorem storePreB (h : Updates all free s t) (rs : Reg4) (erd : Reg3) : Updates all free s (t.storePreB rs erd) :=
  (h.bump erd (-1)).storeB _ _

theorem storePreW (h : Updates all free s t) (rs : Reg4) (erd : Reg3) : Updates all free s (t.storePreW rs erd) :=
  (h.bump erd (-2)).storeW _ _

theorem storePreL (h : Updates all free s t) (ers erd : Reg3) : Updates all free s (t.storePreL ers erd) :=
  (h.bump erd (-4)).storeL _ _

theorem arithB (h : Updates all free s t) (rd : Reg4) (x : Byte × ArithFlags) : Updates all free s (t.arithB rd x) :=
  (h.setR8 rd x.1).setArith x.2

theorem arithW (h : Updates all free s t) (rd : Reg4) (x : Word × ArithFlags) : Updates all free s (t.arithW rd x) :=
  (h.setR16 rd x.1).setArith x.2

theorem arithL (h : Updates all free s t) (n : Reg3) (x : Long × ArithFlags) : Updates all free s (t.arithL n x) :=
  (h.setReg n x.1).setArith x.2

theorem arithStickyB (h : Updates all free s t) (rd : Reg4) (x : Byte × ArithFlags) :
    Updates all free s (t.arithStickyB rd x) := (h.setR8 rd x.1).setArith _

theorem mulResultW (h : Updates all free s t) (rd : Reg4) (p : Word) : Updates all free s (t.mulResultW rd p) :=
  (h.setR16 rd p).setNZ _ _

theorem mulResultL (h : Updates all free s t) (n : Reg3) (p : Long) : Updates all free s (t.mulResultL n p) :=
  (h.setReg n p).setNZ _ _

theorem incB (h : Updates all free s t) (rd : Reg4) (r : Byte) (v : Bool) : Updates all free s (t.incB rd r v) :=
  (h.setR8 rd r).incFlags r v

theorem incW (h : Updates all free s t) (rd : Reg4) (r : Word) (v : Bool) : Updates all free s (t.incW rd r v) :=
  (h.setR16 rd r).incFlags r v

theorem incL (h : Updates all free s t) (n : Reg3) (r : Long) (v : Bool) : Updates all free s (t.incL n r v) :=
  (h.setReg n r).incFlags r v

theorem extendUW (h : Updates all free s t) (rd : Reg4) (r : Word) : Updates all free s (t.extendUW rd r) :=
  (h.setR16 rd r).extendFlags r

theorem extendUL (h : Updates all free s t) (n : Reg3) (r : Long) : Updates all free s (t.extendUL n r) :=
  (h.setReg n r).extendFlags r

theorem shiftB (h : Updates all free s t) (rd : Reg4) (x : ShiftResult 8) : Updates all free s (t.shiftB rd x) :=
  (h.setR8 rd x.r).shiftFlags x

theorem shiftW (h : Updates all free s t) (rd : Reg4) (x : ShiftResult 16) : Updates all free s (t.shiftW rd x) :=
  (h.setR16 rd x.r).shiftFlags x

theorem shiftL (h : Updates all free s t) (n : Reg3) (x : ShiftResult 32) : Updates all free s (t.shiftL n x) :=
  (h.setReg n x.r).shiftFlags x

theorem modifyBitR (h : Updates all free s t) (rd : Reg4) (n : Nat) (f : Bool → Bool) :
    Updates all free s (t.modifyBitR rd n f) := h.setR8 rd _

theorem modifyBit (h : Updates all free s t) (ea : Word) (n : Nat) (f : Bool → Bool) :
    Updates all free s (t.modifyBit ea n f) := (h.read8 ea).write8 ea _

theorem testBit (h : Updates all free s t) (b : Byte) (n : Nat) : Updates all free s (t.testBit b n) :=
  h.setFlag .z _ rfl

theorem testBitAt (h : Updates all free s t) (ea : Word) (n : Nat) : Updates all free s (t.testBitAt ea n) :=
  (h.read8 ea).testBit _ n

theorem carryBit (h : Updates all free s t) (b : Byte) (n : Nat) (f : Bool → Bool → Bool) :
    Updates all free s (t.carryBit b n f) := h.setFlag .c _ rfl

theorem carryBitAt (h : Updates all free s t) (ea : Word) (n : Nat) (f : Bool → Bool → Bool) :
    Updates all free s (t.carryBitAt ea n f) := (h.read8 ea).carryBit _ n f

theorem branch (h : Updates all free s t) (c : Cond) (disp : Long) : Updates all free s (t.branch c disp) := by
  unfold State.branch
  split
  · exact h.setPc _
  · exact h

theorem push16 (h : Updates all free s t) (v : Word) : Updates all free s (t.push16 v) :=
  (h.setReg 7 _).write16 _ v

theorem pop16 (h : Updates all free s t) : Updates all free s t.pop16.2 := (h.read16 _).setReg 7 _

theorem call (h : Updates all free s t) (target : Long) : Updates all free s (t.call target) :=
  (h.push16 _).setPc target

theorem returnFromException (h : Updates all free s t) (ha : all) : Updates all free s t.returnFromException :=
  ((h.pop16.setCcr ha _).pop16).setPc _

theorem loadCcr (h : Updates all free s t) (ha : all) (ea : Word) : Updates all free s (t.loadCcr ea) :=
  (h.read16 ea).setCcr ha _

theorem loadPostCcr (h : Updates all free s t) (ha : all) (ers : Reg3) : Updates all free s (t.loadPostCcr ers) :=
  ((h.read16 _).bump ers 2).setCcr ha _

theorem storeCcr (h : Updates all free s t) (ea : Word) : Updates all free s (t.storeCcr ea) := h.write16 ea _

theorem storePreCcr (h : Updates all free s t) (erd : Reg3) : Updates all free s (t.storePreCcr erd) :=
  (h.bump erd (-2)).storeCcr _

theorem moveBytes (n : Nat) (h : Updates all free s t) : Updates all free s (State.moveBytes n t) := by
  induction n generalizing t with
  | zero => exact h
  | succ n ih => exact ih ((((h.read8 _).write8 _ _).bump 5 1).bump 6 1)

theorem blockMoveB (h : Updates all free s t) : Updates all free s t.blockMoveB := (h.moveBytes _).setR8 12 0

theorem blockMoveW (h : Updates all free s t) : Updates all free s t.blockMoveW := (h.moveBytes _).setR16 4 0

/-! ## The operations with open results -/

/-- A result is left open only under `anyValue`. -/
theorem eq_anyValue_of_settle_none {κ ν β : Type} [DecidableEq κ] {o : OpenResult κ ν} {k : κ} {conv : ν → β}
    {dflt : β} (h : o.settle k conv dflt = none) : o = .anyValue := by
  obtain ⟨_, _, _, hsome⟩ := settle_spec o k conv dflt
  by_contra hne
  obtain ⟨v, hv⟩ := hsome hne
  cases h.symm.trans hv

theorem adjusted (h : Updates all free s t) (rd : Reg4) (r : Byte) (c : Bool) :
    Updates all free s (t.adjusted rd r c) := ((h.setR8 rd r).setNZ _ _).setFlag .c c rfl

theorem decimalAdjust (h : Updates all free s t) (rd : Reg4) {rule : OpenResult AdjustInput Adjustment}
    (dflt : AdjustInput → Adjustment) (table : List AdjustRow) (hf : rule = .anyValue → free) :
    Updates all free s (t.decimalAdjust rd rule dflt table) := by
  unfold State.decimalAdjust
  dsimp only
  split
  · exact h.adjusted rd _ _
  · rename_i hnone
    have htake := h.takeFree (hf (eq_anyValue_of_settle_none hnone))
    exact ((htake.adjusted rd _ _).setFlag .h _ rfl).setFlag .v _ rfl

theorem divided {w : Nat} (h : Updates all free s t) (d : DivideResult w) (old : BitVec (w + w))
    (hf : t.params.divCorner = .anyValue → free) : Updates all free s (t.divided d old).2 := by
  unfold State.divided
  split
  · exact h.setNZ _ _
  · split
    · exact h.setNZ _ _
    · rename_i hnone
      exact (h.takeFree (hf (eq_anyValue_of_settle_none hnone))).setNZ _ _
  · split
    · exact h.setNZ _ _
    · rename_i hnone
      have hfree := hf (eq_anyValue_of_settle_none hnone)
      exact ((h.takeFree hfree).takeFree hfree).setNZ _ _

theorem divideW (h : Updates all free s t) (rd : Reg4) (d : DivideResult 8)
    (hf : t.params.divCorner = .anyValue → free) : Updates all free s (t.divideW rd d) :=
  (h.divided d _ hf).setR16 rd _

theorem divideL (h : Updates all free s t) (n : Reg3) (d : DivideResult 16)
    (hf : t.params.divCorner = .anyValue → free) : Updates all free s (t.divideL n d) :=
  (h.divided d _ hf).setReg n _

end Updates

/-! ## Each instruction is a chain -/

/-- Whether instruction `i` may take a free value in state `s` (assumption 2). -/
def MayTakeFree (i : Instr) (s : State) : Prop :=
  hasOpenResult i = true
    ∧ (s.params.daaAdjust = .anyValue ∨ s.params.dasAdjust = .anyValue ∨ s.params.divCorner = .anyValue)

/-- Every instruction completes by elementary updates: CCR is written whole only by those of R30, and free values are
taken only for an open result under `anyValue`. -/
theorem exec_updates (i : Instr) (s : State) :
    Completes i s (Updates (writesAllOfCcr i = true) (MayTakeFree i s) s) := by
  cases i with
  | movB_rs_rd | movB_imm_rd | andB_imm_rd | andB_rs_rd | orB_imm_rd | orB_rs_rd | xorB_imm_rd | xorB_rs_rd
  | notB =>
    exact ⟨_, rfl, .moveB .refl _ _⟩
  | movB_ind_rd | movB_d16_rd | movB_d24_rd | movB_aa8_rd | movB_aa16_rd | movB_aa24_rd | movfpe_aa16_rd =>
    exact ⟨_, rfl, .loadB .refl _ _⟩
  | movB_postInc_rd => exact ⟨_, rfl, .loadPostB .refl _ _⟩
  | movB_rs_ind | movB_rs_d16 | movB_rs_d24 | movB_rs_aa8 | movB_rs_aa16 | movB_rs_aa24 | movtpe_rs_aa16 =>
    exact ⟨_, rfl, .storeB .refl _ _⟩
  | movB_rs_preDec => exact ⟨_, rfl, .storePreB .refl _ _⟩
  | movW_rs_rd | movW_imm_rd | extsW | andW_imm_rd | andW_rs_rd | orW_imm_rd | orW_rs_rd | xorW_imm_rd
  | xorW_rs_rd | notW =>
    exact ⟨_, rfl, .moveW .refl _ _⟩
  | movW_ind_rd | movW_d16_rd | movW_d24_rd | movW_aa16_rd | movW_aa24_rd => exact ⟨_, rfl, .loadW .refl _ _⟩
  | movW_postInc_rd => exact ⟨_, rfl, .loadPostW .refl _ _⟩
  | movW_rs_ind | movW_rs_d16 | movW_rs_d24 | movW_rs_aa16 | movW_rs_aa24 => exact ⟨_, rfl, .storeW .refl _ _⟩
  | movW_rs_preDec => exact ⟨_, rfl, .storePreW .refl _ _⟩
  | movL_ers_erd | movL_imm_erd | extsL | andL_imm_erd | andL_ers_erd | orL_imm_erd | orL_ers_erd | xorL_imm_erd
  | xorL_ers_erd | notL =>
    exact ⟨_, rfl, .moveL .refl _ _⟩
  | movL_ind_erd | movL_d16_erd | movL_d24_erd | movL_aa16_erd | movL_aa24_erd => exact ⟨_, rfl, .loadL .refl _ _⟩
  | movL_postInc_erd => exact ⟨_, rfl, .loadPostL .refl _ _⟩
  | movL_ers_ind | movL_ers_d16 | movL_ers_d24 | movL_ers_aa16 | movL_ers_aa24 => exact ⟨_, rfl, .storeL .refl _ _⟩
  | movL_ers_preDec => exact ⟨_, rfl, .storePreL .refl _ _⟩
  | addB_imm_rd | addB_rs_rd | subB_rs_rd | negB => exact ⟨_, rfl, .arithB .refl _ _⟩
  | addW_imm_rd | addW_rs_rd | subW_imm_rd | subW_rs_rd | negW => exact ⟨_, rfl, .arithW .refl _ _⟩
  | addL_imm_erd | addL_ers_erd | subL_imm_erd | subL_ers_erd | negL => exact ⟨_, rfl, .arithL .refl _ _⟩
  | adds_1 | adds_2 | adds_4 | subs_1 | subs_2 | subs_4 | mulxuW_rs_erd => exact ⟨_, rfl, .setReg .refl _ _⟩
  | addx_imm_rd | addx_rs_rd | subx_imm_rd | subx_rs_rd => exact ⟨_, rfl, .arithStickyB .refl _ _⟩
  | cmpB_imm_rd | cmpB_rs_rd | cmpW_imm_rd | cmpW_rs_rd | cmpL_imm_erd | cmpL_ers_erd =>
    exact ⟨_, rfl, .setArith .refl _⟩
  | daa => exact ⟨_, rfl, .decimalAdjust .refl _ _ _ fun h => ⟨rfl, .inl h⟩⟩
  | das => exact ⟨_, rfl, .decimalAdjust .refl _ _ _ fun h => ⟨rfl, .inr (.inl h)⟩⟩
  | mulxuB_rs_rd => exact ⟨_, rfl, .setR16 .refl _ _⟩
  | divxuB_rs_rd | divxsB_rs_rd => exact ⟨_, rfl, .divideW .refl _ _ fun h => ⟨rfl, .inr (.inr h)⟩⟩
  | divxuW_rs_erd | divxsW_rs_erd => exact ⟨_, rfl, .divideL .refl _ _ fun h => ⟨rfl, .inr (.inr h)⟩⟩
  | mulxsB_rs_rd => exact ⟨_, rfl, .mulResultW .refl _ _⟩
  | mulxsW_rs_erd => exact ⟨_, rfl, .mulResultL .refl _ _⟩
  | incB | decB => exact ⟨_, rfl, .incB .refl _ _ _⟩
  | incW_1 | incW_2 | decW_1 | decW_2 => exact ⟨_, rfl, .incW .refl _ _ _⟩
  | incL_1 | incL_2 | decL_1 | decL_2 => exact ⟨_, rfl, .incL .refl _ _ _⟩
  | extuW => exact ⟨_, rfl, .extendUW .refl _ _⟩
  | extuL => exact ⟨_, rfl, .extendUL .refl _ _⟩
  | shalB | sharB | shllB | shlrB | rotlB | rotrB | rotxlB | rotxrB => exact ⟨_, rfl, .shiftB .refl _ _⟩
  | shalW | sharW | shllW | shlrW | rotlW | rotrW | rotxlW | rotxrW => exact ⟨_, rfl, .shiftW .refl _ _⟩
  | shalL | sharL | shllL | shlrL | rotlL | rotrL | rotxlL | rotxrL => exact ⟨_, rfl, .shiftL .refl _ _⟩
  | bset_imm_rd | bset_rn_rd | bclr_imm_rd | bclr_rn_rd | bnot_imm_rd | bnot_rn_rd | bst_imm_rd | bist_imm_rd =>
    exact ⟨_, rfl, .modifyBitR .refl _ _ _⟩
  | bset_imm_ind | bset_imm_aa8 | bset_rn_ind | bset_rn_aa8 | bclr_imm_ind | bclr_imm_aa8 | bclr_rn_ind
  | bclr_rn_aa8 | bnot_imm_ind | bnot_imm_aa8 | bnot_rn_ind | bnot_rn_aa8 | bst_imm_ind | bst_imm_aa8
  | bist_imm_ind | bist_imm_aa8 =>
    exact ⟨_, rfl, .modifyBit .refl _ _ _⟩
  | btst_imm_rd | btst_rn_rd => exact ⟨_, rfl, .testBit .refl _ _⟩
  | btst_imm_ind | btst_imm_aa8 | btst_rn_ind | btst_rn_aa8 => exact ⟨_, rfl, .testBitAt .refl _ _⟩
  | band_imm_rd | biand_imm_rd | bor_imm_rd | bior_imm_rd | bxor_imm_rd | bixor_imm_rd | bld_imm_rd
  | bild_imm_rd =>
    exact ⟨_, rfl, .carryBit .refl _ _ _⟩
  | band_imm_ind | band_imm_aa8 | biand_imm_ind | biand_imm_aa8 | bor_imm_ind | bor_imm_aa8 | bior_imm_ind
  | bior_imm_aa8 | bxor_imm_ind | bxor_imm_aa8 | bixor_imm_ind | bixor_imm_aa8 | bld_imm_ind | bld_imm_aa8
  | bild_imm_ind | bild_imm_aa8 =>
    exact ⟨_, rfl, .carryBitAt .refl _ _ _⟩
  | bra_d8 | brn_d8 | bhi_d8 | bls_d8 | bcc_d8 | bcs_d8 | bne_d8 | beq_d8 | bvc_d8 | bvs_d8 | bpl_d8 | bmi_d8
  | bge_d8 | blt_d8 | bgt_d8 | ble_d8 | bra_d16 | brn_d16 | bhi_d16 | bls_d16 | bcc_d16 | bcs_d16 | bne_d16
  | beq_d16 | bvc_d16 | bvs_d16 | bpl_d16 | bmi_d16 | bge_d16 | blt_d16 | bgt_d16 | ble_d16 =>
    exact ⟨_, rfl, .branch .refl _ _⟩
  | jmp_ind | jmp_aa24 => exact ⟨_, rfl, .setPc .refl _⟩
  | jmp_memInd => exact ⟨_, rfl, .setPc (.read16 .refl _) _⟩
  | jsr_ind | jsr_aa24 | bsr_d8 | bsr_d16 => exact ⟨_, rfl, .call .refl _⟩
  | jsr_memInd => exact ⟨_, rfl, .call (.read16 .refl _) _⟩
  | rts => exact ⟨_, rfl, .setPc (.pop16 .refl) _⟩
  | rte => exact ⟨_, rfl, .returnFromException .refl rfl⟩
  | andc | orc | xorc | ldc_imm | ldc_rs => exact ⟨_, rfl, .setCcr .refl rfl _⟩
  | ldc_ind | ldc_d16 | ldc_d24 | ldc_aa16 | ldc_aa24 => exact ⟨_, rfl, .loadCcr .refl rfl _⟩
  | ldc_postInc => exact ⟨_, rfl, .loadPostCcr .refl rfl _⟩
  | stc_rd => exact ⟨_, rfl, .setR8 .refl _ _⟩
  | stc_ind | stc_d16 | stc_d24 | stc_aa16 | stc_aa24 => exact ⟨_, rfl, .storeCcr .refl _⟩
  | stc_preDec => exact ⟨_, rfl, .storePreCcr .refl _⟩
  | nop | sleep | trapa => exact ⟨_, rfl, .refl⟩
  | eepmovB => exact ⟨_, rfl, .blockMoveB .refl⟩
  | eepmovW => exact ⟨_, rfl, .blockMoveW .refl⟩

theorem updates_of_exec {i : Instr} {s t : State} (h : exec i s = .next t) :
    Updates (writesAllOfCcr i = true) (MayTakeFree i s) s t := by
  obtain ⟨u, hu, hup⟩ := exec_updates i s
  cases hu.symm.trans h
  exact hup

/-! ## A step is the vector load, a chain and the tick -/

theorem Updates.fetchFrom {all free : Prop} {s t : State} (fuel : Nat) (ws : List Word) (h : Updates all free s t) :
    Updates all free s (State.fetchFrom fuel ws t).state := by
  induction fuel generalizing ws t with
  | zero => exact h
  | succ fuel ih =>
    have hfetch : Updates all free s t.fetch16.2 := (h.read16 _).setPc _
    unfold State.fetchFrom
    split
    · exact hfetch
    · exact hfetch
    · exact ih _ hfetch

theorem Updates.raiseUndefinedOpcode {all free : Prop} {s t u : State} {a : Long} {w : Word}
    (h : Updates all free s t) (e : t.raiseUndefinedOpcode a w = .next u) : Updates all free s u := by
  unfold State.raiseUndefinedOpcode at e
  split at e
  · cases e; exact h.setPc _
  · cases e

theorem tick_next {o : Host.Outcome State Fault Refusal} {t : State} (h : tick o = .next t) :
    ∃ u, o = .next u ∧ t = u.busCycle := by
  cases o with
  | next u => cases h; exact ⟨u, rfl, rfl⟩
  | fault r => cases h
  | refused r => cases h

/-- What a step that has a next state does (R354): elementary updates after the vector load, then one bus tick. -/
theorem step_updates {s t : State} (h : step s = .next t) :
    ∃ u, Updates True True s.loadVector u ∧ t = u.busCycle := by
  obtain ⟨u, hrun, rfl⟩ := tick_next h
  refine ⟨u, ?_, rfl⟩
  have hfetch : Updates True True s.loadVector s.loadVector.fetchInstr.state := Updates.refl.fetchFrom _ _
  unfold runFetched at hrun
  split at hrun
  · have hexec := updates_of_exec hrun
    exact hfetch.trans (hexec.mono (fun _ => trivial) fun _ => trivial)
  · exact hfetch.raiseUndefinedOpcode hrun

/-- What the vector load keeps, and that it leaves `initialized` set (R353). -/
theorem State.loadVector_keeps (s : State) :
    s.loadVector.rom = s.rom ∧ s.loadVector.params = s.params ∧ s.loadVector.initialized = true
      ∧ s.loadVector.freeIndex = s.freeIndex := by
  obtain ⟨hset, hunset⟩ := s.loadVector_spec
  cases hi : s.initialized with
  | true => rw [hset hi]; exact ⟨rfl, rfl, hi, rfl⟩
  | false => rw [hunset hi]; exact ⟨rfl, rfl, rfl, rfl⟩

theorem Inv.loadVector {s : State} (h : Inv s) : Inv s.loadVector := by
  unfold State.loadVector
  split
  · exact h
  · exact ((h.read16 0).setPc _).of_fields rfl rfl rfl rfl

/-! ## The invariant at reset -/

/-- Reset meets the invariant for every image in canonical form and every reset value of SSSR whose bits 7, 5 and 4 are
clear. -/
theorem Inv.resetWith {p : Params} {image : Memory} (himage : image.wf 0x0000 0xBFFF = true)
    (hp : p.sssrReset &&& 0xB0 = 0) : Inv (State.resetWith p image) where
  pc := Nat.two_pow_pos 24
  bitCounter := Nat.zero_le _
  clockCounter := Nat.two_pow_pos 8
  status := hp
  rom := himage
  ram := rfl

/-! ## The number of a view -/

/-- The view fields of a long register: a 0 or a 1 above its number (R22). -/
theorem viewField (n : Reg3) :
    (viewReg (0#1 ++ n) = n ∧ (0#1 ++ n : Reg4).msb = false)
      ∧ viewReg (1#1 ++ n) = n ∧ (1#1 ++ n : Reg4).msb = true := by
  revert n; unfold viewReg; decide

/-! ## The claims -/

/-- Settles O3: the vector load, every elementary update and the tick keep the invariant. -/
theorem stepKeepsInvariant : Obligations.StepKeepsInvariant := by
  intro s t hs hstep
  obtain ⟨u, hup, rfl⟩ := step_updates hstep
  exact (hup.inv hs.loadVector).busCycle

/-- Settles O8: no elementary update writes the ROM image, the parameters or `initialized`. -/
theorem stepKeepsRomAndParameters : Obligations.StepKeepsRomAndParameters := by
  constructor
  · intro s t hstep
    obtain ⟨u, hup, rfl⟩ := step_updates hstep
    obtain ⟨hrom, hparams, hinit, hfree⟩ := hup.keeps
    obtain ⟨vrom, vparams, vinit, vfree⟩ := s.loadVector_keeps
    exact ⟨hrom.trans vrom, hparams.trans vparams, hinit.trans vinit, vfree ▸ hfree⟩
  · intro i s t hexec hclosed
    refine (updates_of_exec hexec).freeIndex_eq ?_
    rintro ⟨hopen, hany⟩
    rcases hclosed with hno | ⟨hdaa, hdas, hdiv⟩
    · cases hno.symm.trans hopen
    · rcases hany with h | h | h
      exacts [hdaa h, hdas h, hdiv h]

/-- Settles O9: an instruction that does not write CCR whole writes single flags, none of them a mask bit. -/
theorem maskBitsChangeOnlyWithAllOfCcr : Obligations.MaskBitsChangeOnlyWithAllOfCcr := by
  intro i s t hnot hexec
  have hup := updates_of_exec hexec
  have hall : ¬ writesAllOfCcr i = true := by simp [hnot]
  exact ⟨hup.mask_eq hall rfl, hup.mask_eq hall rfl, hup.mask_eq hall rfl⟩

/-- Settles O24: a write to a view is a write of its long register, rebuilt around the new bits. -/
theorem registerViews : Obligations.RegisterViews := by
  refine ⟨fun s n => ?_, fun s n v => ?_, fun s n v => ?_, fun s n v => s.onlyLong_setReg n v⟩ <;>
    obtain ⟨⟨hlow, hlow_msb⟩, hhigh, hhigh_msb⟩ := viewField n
  · simp [State.r16, State.r8, hlow, hlow_msb, hhigh, hhigh_msb]
  · simp only [State.setR16, hlow, hlow_msb, hhigh, hhigh_msb]
    exact ⟨s.onlyLong_setReg n _, s.onlyLong_setReg n _⟩
  · simp only [State.setR8, hlow, hlow_msb, hhigh, hhigh_msb]
    exact ⟨s.onlyLong_setReg n _, s.onlyLong_setReg n _⟩

/-- Settles O2: `State.reset` has an empty image and the default parameters; `reset()` keeps the image and the
parameters. -/
theorem resetMeetsInvariant : Obligations.ResetMeetsInvariant := by
  refine ⟨Inv.resetWith rfl rfl, fun s hs hp => ?_⟩
  have hreset : Inv (State.resetWith s.params s.rom) := .resetWith hs.rom hp
  exact hreset.of_fields rfl rfl rfl rfl

end Sys2Proof.Machine
end

section
/-! SUPPORT. The address map and the accesses of more than a byte, and from them the claims about the bus (20_memory.md
rules R61 to R76; 10_state.md rule R33). -/

namespace Sys2Proof.Machine

/-! ## The address map -/

/-- The flash-control registers lie between 0xF020 and 0xF0FF (R61). -/
theorem InFlash.range {a : Word} (h : InFlash a) : 0xF020 ≤ a.toNat ∧ a.toNat ≤ 0xF0FF := by
  rcases h with rfl | rfl | rfl | rfl | rfl <;> decide

/-- The SSU's registers lie there too (R61). -/
theorem InSsu.range {a : Word} (h : InSsu a) : 0xF020 ≤ a.toNat ∧ a.toNat ≤ 0xF0FF := by
  rcases h with rfl | rfl | rfl | rfl | rfl | rfl | rfl <;> decide

theorem InFlash.not_inSsu {a : Word} (h : InFlash a) : ¬ InSsu a := by
  rcases h with rfl | rfl | rfl | rfl | rfl <;> decide

theorem decodeAddr_inFlash {a : Word} (h : InFlash a) : ∃ k, decodeAddr a = .flash k := by
  rcases h with rfl | rfl | rfl | rfl | rfl
  exacts [⟨.flmcr1, rfl⟩, ⟨.flmcr2, rfl⟩, ⟨.flpwcr, rfl⟩, ⟨.ebr1, rfl⟩, ⟨.fenr, rfl⟩]

/-- What is neither memory nor a register is open bus (R61). -/
theorem decodeAddr_of_outside {a : Word} (hrom : ¬ InRom a) (hram : ¬ InRam a) (hssu : ¬ InSsu a)
    (hflash : ¬ InFlash a) : decodeAddr a = .openBus := by
  rcases decodeAddr_cases a with ⟨h, _⟩ | ⟨h, _⟩ | ⟨h, _⟩ | ⟨k, _, e⟩ | ⟨e, _⟩
  · exact absurd h hrom
  · exact absurd h hram
  · exact absurd h hflash
  · exact absurd (inSsu_of_decodeAddr e) hssu
  · exact e

/-- ROM is the three quarters of the address space below the two top bits both set. -/
theorem inRom_iff_and (a : Word) : InRom a ↔ a &&& 0xC000 ≠ 0xC000 := by
  have shifted : a &&& (0xC000 : Word) = (a >>> 14) <<< 14 := by
    ext i hi
    interval_cases i <;> simp
  have masked : (a &&& (0xC000 : Word)).toNat = 16384 * (a.toNat / 16384) := by
    rw [shifted, BitVec.toNat_shiftLeft, BitVec.toNat_ushiftRight, Nat.shiftLeft_eq, Nat.shiftRight_eq_div_pow]
    have := a.isLt
    omega
  have := a.isLt
  rw [Ne, ← BitVec.toNat_inj, masked]
  simp only [InRom, BitVec.reduceToNat]
  omega

/-! ## Reads and writes by target -/

theorem State.read8_of_inRom (s : State) {a : Word} (h : InRom a) : s.read8 a = (s.rom.read a.toNat, s) := by
  simp only [State.read8, decodeAddr_of_inRom h]

theorem State.read8_of_inFlash (s : State) {a : Word} (h : InFlash a) : s.read8 a = (s.params.flashRegRead, s) := by
  obtain ⟨k, hk⟩ := decodeAddr_inFlash h
  simp only [State.read8, hk]

theorem State.read8_of_openBus (s : State) {a : Word} (h : decodeAddr a = .openBus) : s.read8 a = (0xFF, s) := by
  simp only [State.read8, h]

theorem State.write8_of_openBus (s : State) {a : Word} (v : Byte) (h : decodeAddr a = .openBus) :
    s.write8 a v = s := by
  simp only [State.write8, h]

theorem State.read8_state_of_inRam (s : State) {a : Word} (h : InRam a) : (s.read8 a).2 = s := by
  rw [State.read8_state, if_neg]
  rintro rfl
  exact absurd h (by decide)

theorem State.read16_of_openBus (s : State) {a : Word} (he : decodeAddr (evenAddr a) = .openBus)
    (ho : decodeAddr (oddAddr a) = .openBus) : s.read16 a = (0xFFFF, s) := by
  simp only [State.read16, s.read8_of_openBus he, s.read8_of_openBus ho]
  rfl

theorem State.write16_of_openBus (s : State) {a : Word} (v : Word) (he : decodeAddr (evenAddr a) = .openBus)
    (ho : decodeAddr (oddAddr a) = .openBus) : s.write16 a v = s := by
  rw [State.write16, s.write8_of_openBus _ he, s.write8_of_openBus _ ho]

/-! ## Even and odd addresses -/

theorem evenAddr_of_even {a : Word} (h : a.getLsbD 0 = false) : evenAddr a = a := by
  rw [BitVec.getLsbD, Nat.testBit_zero, decide_eq_false_iff_not] at h
  refine BitVec.eq_of_toNat_eq ?_
  rw [evenAddr_toNat]
  omega

theorem oddAddr_eq_evenAddr_add_one (a : Word) : oddAddr a = evenAddr a + 1 := by
  refine BitVec.eq_of_toNat_eq ?_
  rw [oddAddr_toNat, BitVec.toNat_add, evenAddr_toNat]
  have := a.isLt
  simp only [BitVec.reduceToNat]
  omega

theorem evenAddr_add_two (a : Word) : evenAddr (a + 2) = evenAddr a + 2 := by
  refine BitVec.eq_of_toNat_eq ?_
  rw [evenAddr_toNat, toNat_add_two, toNat_add_two, evenAddr_toNat]
  omega

theorem evenAddr_sub_one {a : Word} (h : a.getLsbD 0 = true) : evenAddr (a - 1) = evenAddr a := by
  rw [BitVec.getLsbD, Nat.testBit_zero, decide_eq_true_eq] at h
  have hsub : (a - 1).toNat = a.toNat - 1 := by
    refine BitVec.toNat_sub_of_le ?_
    rw [BitVec.le_def]
    simp only [BitVec.reduceToNat]
    omega
  refine BitVec.eq_of_toNat_eq ?_
  rw [evenAddr_toNat, evenAddr_toNat, hsub]
  omega

/-- RAM holds whole words: its first address is even and its last odd. -/
theorem inRam_oddAddr {a : Word} (h : InRam (evenAddr a)) : InRam (oddAddr a) := by
  rw [InRam, evenAddr_toNat] at h
  rw [InRam, oddAddr_toNat]
  omega

/-- Words and longs depend on the address only through `evenAddr` (R64, R67, R76). -/
theorem State.wide_congr (s : State) {a b : Word} (h : evenAddr a = evenAddr b) :
    s.read16 a = s.read16 b ∧ s.read32 a = s.read32 b ∧ (∀ v, s.write16 a v = s.write16 b v)
      ∧ ∀ v, s.write32 a v = s.write32 b v := by
  have hnext : evenAddr (a + 2) = evenAddr (b + 2) := by rw [evenAddr_add_two, evenAddr_add_two, h]
  simp only [State.read32, State.write32, State.read16, State.write16, oddAddr, h, hnext, implies_true, and_self]

/-! ## Stores to RAM -/

/-- Stores to RAM alone change no other address: SSTDR is not among the bytes stored. -/
theorem StoreWorld.elsewhere {s t : State} {xs : List (Word × Byte)} (h : StoreWorld s t xs)
    (hram : ∀ c ∈ xs, InRam c.1) {b : Word} (hb : ∀ c ∈ xs, c.1 ≠ b) : (t.read8 b).1 = (s.read8 b).1 := by
  refine h.outside b hb fun _ c hc e => ?_
  exact absurd (e ▸ hram c hc) (by decide : ¬ InRam 0xF0EB)

/-- Stores to RAM alone read back, byte by byte. -/
theorem StoreWorld.readsBack {s t : State} {xs : List (Word × Byte)} (h : StoreWorld s t xs)
    (hram : ∀ c ∈ xs, InRam c.1) : ∀ c ∈ xs, (t.read8 c.1).1 = c.2 :=
  fun c hc => h.inRam c hc (hram c hc)

/-- A word stored to RAM reads back, alone or as a half of a long. -/
theorem StoreWorld.wordAt_stored {s t : State} {xs : List (Word × Byte)} (h : StoreWorld s t xs) {a v : Word}
    (hsub : wordBytes a v ⊆ xs) (hram : InRam (evenAddr a)) : wordAt t a = v := by
  have hhigh : (t.read8 (evenAddr a)).1 = v.extractLsb' 8 8 :=
    h.inRam _ (hsub (List.mem_cons_self ..)) hram
  have hlow : (t.read8 (oddAddr a)).1 = v.extractLsb' 0 8 :=
    h.inRam _ (hsub (List.mem_cons_of_mem _ (List.mem_cons_self ..))) (inRam_oddAddr hram)
  rw [wordAt, hhigh, hlow]
  exact BitVec.extractLsb'_append_extractLsb'

theorem inRam_wordBytes {a v : Word} (h : InRam (evenAddr a)) : ∀ c ∈ wordBytes a v, InRam c.1 := by
  simp only [wordBytes, List.forall_mem_cons]
  exact ⟨h, inRam_oddAddr h, by simp⟩

/-- A slice of a slice. -/
theorem extractLsb'_extractLsb' {w : Nat} (x : BitVec w) {i n j m : Nat} (h : j + m ≤ n) :
    (x.extractLsb' i n).extractLsb' j m = x.extractLsb' (i + j) m := by
  ext k hk
  have hin : j + k < n := by omega
  simp [hin, Nat.add_assoc]

/-- A long at an even address is stored in its four bytes from there on, the most significant first (R68, R75). -/
theorem longBytes_of_even {a : Word} (v : Long) (h : a.getLsbD 0 = false) :
    longBytes a v = [(a, v.extractLsb' 24 8), (a + 1, v.extractLsb' 16 8), (a + 2, v.extractLsb' 8 8),
      (a + 3, v.extractLsb' 0 8)] := by
  have even0 : evenAddr a = a := evenAddr_of_even h
  have even2 : evenAddr (a + 2) = a + 2 := by rw [evenAddr_add_two, even0]
  have odd1 : oddAddr a = a + 1 := by rw [oddAddr_eq_evenAddr_add_one, even0]
  have odd3 : oddAddr (a + 2) = a + 3 := by rw [oddAddr_eq_evenAddr_add_one, even2, BitVec.add_assoc]; rfl
  simp only [longBytes, wordBytes, even0, even2, odd1, odd3, List.cons_append, List.nil_append,
    extractLsb'_extractLsb' v (by decide : 8 + 8 ≤ 16), extractLsb'_extractLsb' v (by decide : 0 + 8 ≤ 16)]

/-! ## The ROM image -/

theorem RomImage.ofBytes_of_length_ne {bytes : List Byte} (h : bytes.length ≠ 49152) :
    RomImage.ofBytes bytes = none :=
  dif_neg h

theorem RomImage.ofBytes_of_length_eq {bytes : List Byte} (h : bytes.length = 49152) :
    ∃ image, RomImage.ofBytes bytes = some image ∧ image.toList = bytes :=
  ⟨⟨bytes.toArray, h⟩, dif_pos h, rfl⟩

/-- ROM gives the bytes of the image installed (R33, R362). -/
theorem State.read_installRom (s : State) (image : RomImage) {i : Nat} (h : i < 49152) :
    (s.installRom image).rom.read i = image[i] := by
  have hlen : i < image.toList.length := by simpa using h
  have hread := Memory.read_ofBytes 0 image.toList hlen
  rw [Nat.zero_add, Vector.getElem_toList] at hread
  exact hread

/-- An address outside ROM does not read ROM. -/
theorem State.read8_installRom_outside (s : State) (image : RomImage) {a : Word} (h : ¬ InRom a) :
    ((s.installRom image).read8 a).1 = (s.read8 a).1 := by
  unfold State.read8
  split <;> rename_i hd
  · exact absurd (decodeAddr_rom hd).2 h
  all_goals rfl

/-! ## The claims -/

/-- Settles O14: the four ranges of the map, and its twelve registers one by one. -/
theorem addressMap : Obligations.AddressMap := by
  refine ⟨fun a => ⟨inRom_iff_and a, decodeAddr_of_inRom, decodeAddr_of_inRam, decodeAddr_of_outside⟩, ?_⟩
  decide

/-- Settles O15: a byte store to RAM, and a word store as two of them. -/
theorem ramReadsBack : Obligations.RamReadsBack := by
  constructor
  · intro s a v hram
    have hstore := s.storeWorld_write8 a v
    refine ⟨Prod.ext (s.read8_write8_same v hram) (State.read8_state_of_inRam _ hram), fun b hb => ?_⟩
    refine hstore.elsewhere ?_ ?_ <;> simp only [List.mem_singleton, forall_eq]
    exacts [hram, hb.symm]
  · intro s a v hram
    have hstore := s.storeWorld_write16 a v
    have hall : ∀ c ∈ wordBytes a v, InRam c.1 := inRam_wordBytes hram
    have hword : ((s.write16 a v).read16 a).1 = v :=
      (State.read16_value ..).trans (hstore.wordAt_stored (List.Subset.refl _) hram)
    have hread := hstore.readsBack hall
    have helse := fun b => hstore.elsewhere hall (b := b)
    simp only [wordBytes, List.forall_mem_cons] at hread helse
    obtain ⟨hhigh, hlow, -⟩ := hread
    exact ⟨hword, hhigh, hlow, fun b he ho => helse b ⟨he.symm, ho.symm, List.forall_mem_nil _⟩⟩

/-- Settles O17: an image is installed byte by byte in ROM alone; ROM and flash-control reads have no side effect, and
the writes are dropped. -/
theorem romImageAndFlash : Obligations.RomImageAndFlash := by
  refine ⟨fun s image => ⟨fun a h => ?_, rfl, fun a h => s.read8_installRom_outside image h,
      fun hs => hs.installRom image⟩,
    fun bytes => ⟨RomImage.ofBytes_of_length_ne, RomImage.ofBytes_of_length_eq⟩,
    fun s a => ⟨fun h => ?_, fun h => ?_⟩⟩
  · have hrom : InRom a := Nat.le_of_lt_succ h
    rw [State.read8_of_inRom _ hrom, s.read_installRom image h]
  · refine ⟨s.read8_of_inRom h, fun v => s.write8_dropped v ?_ fun hssu => hssu.not_inRom h⟩
    unfold InRam; omega
  · have hrange := h.range
    refine ⟨s.read8_of_inFlash h, fun v => s.write8_dropped v ?_ h.not_inSsu⟩
    unfold InRam; omega

/-- Settles O19: a long store at an even address is two word stores, of its high and its low half. -/
theorem longAccessBigEndian : Obligations.LongAccessBigEndian := by
  intro s a v heven hram hram2
  have hhigh : InRam (evenAddr a) := (evenAddr_of_even heven).symm ▸ hram
  have hlow : InRam (evenAddr (a + 2)) := by rwa [evenAddr_add_two, evenAddr_of_even heven]
  have hstore := s.storeWorld_write32 a v
  have hall : ∀ c ∈ longBytes a v, InRam c.1 :=
    List.forall_mem_append.2 ⟨inRam_wordBytes hhigh, inRam_wordBytes hlow⟩
  have hword : wordAt (s.write32 a v) a = v.extractLsb' 16 16 :=
    hstore.wordAt_stored (List.subset_append_left ..) hhigh
  have hnext : wordAt (s.write32 a v) (a + 2) = v.extractLsb' 0 16 :=
    hstore.wordAt_stored (List.subset_append_right ..) hlow
  have hlong : ((s.write32 a v).read32 a).1 = v := by
    rw [State.read32_value, longAt, hword, hnext]
    exact BitVec.extractLsb'_append_extractLsb'
  have hread := hstore.readsBack hall
  have helse := fun b => hstore.elsewhere hall (b := b)
  simp only [longBytes_of_even v heven, List.forall_mem_cons] at hread helse
  obtain ⟨h0, h1, h2, h3, -⟩ := hread
  exact ⟨h0, h1, h2, h3, (State.read16_value ..).trans hnext, hlong, fun b b0 b1 b2 b3 =>
    helse b ⟨b0.symm, b1.symm, b2.symm, b3.symm, List.forall_mem_nil _⟩⟩

/-- Settles O16: at an open address each byte of the access reads as ones and drops what is written. -/
theorem openBusReadsOnes : Obligations.OpenBusReadsOnes := by
  refine ⟨fun s a h => ⟨s.read8_of_openBus h, fun v => s.write8_of_openBus v h⟩,
    fun s a he ho => ⟨s.read16_of_openBus he ho, fun v => s.write16_of_openBus v he ho,
      fun he2 ho2 => ⟨?_, fun v => ?_⟩⟩, fun a h => ?_⟩
  · simp only [State.read32, s.read16_of_openBus he ho, s.read16_of_openBus he2 ho2]
    rfl
  · rw [State.write32, s.write16_of_openBus _ he ho, s.write16_of_openBus _ he2 ho2]
  · refine decodeAddr_of_outside ?_ ?_ (fun hssu => ?_) fun hflash => ?_
    · unfold InRom; omega
    · unfold InRam; omega
    · have := hssu.range; omega
    · have := hflash.range; omega

/-- Settles O18: the words of an access are those of its even address. -/
theorem wideAccessIgnoresBitZero : Obligations.WideAccessIgnoresBitZero := by
  refine ⟨fun s a hodd => ?_, fun s a => ⟨s.read16_value a, s.read32_value a⟩⟩
  obtain ⟨hread16, hread32, hwrite16, hwrite32⟩ := s.wide_congr (evenAddr_sub_one hodd).symm
  refine ⟨hread16, hread32, hwrite16, hwrite32, fun hpc => ?_⟩
  rw [State.fetch16, hpc, hread16]

end Sys2Proof.Machine
end

section
/-! SUPPORT. Decoding and encoding are inverse (30_encoding.md rules R103 to R116), and a step runs what the words at PC
decode to. `Exact` says of a reader, table by table, that it answers only with instructions whose encoding is the words
taken; the other direction follows each row of the encoder through the decoder's tables. -/

namespace Sys2Proof

/-! ## Nibbles -/

/-- A nibble is `(0xxx)` or `(1xxx)` of R103. -/
theorem nibble_cases {P : Nibble → Prop} (n : Nibble) (h0 : ∀ r, P (reg0 r)) (h1 : ∀ r, P (reg1 r)) : P n := by
  cases h : n.msb with
  | false => exact reg0_lo3 h ▸ h0 _
  | true => exact reg1_lo3 h ▸ h1 _

theorem byteOf_eq_iff {a b : Nibble} {x : Byte} : byteOf a b = x ↔ a = hiN x ∧ b = loN x := by
  constructor
  · rintro rfl; simp
  · rintro ⟨rfl, rfl⟩; simp

@[simp] theorem hiN_append_loN (b : Byte) : hiN b ++ loN b = b := byteOf_hiN_loN b

@[simp] theorem top8_append_lo16 (x : BitVec 24) : top8 x ++ lo16 x = x := by
  simpa using top8_lo16 x

/-! ## What each way to take words answers -/

@[simp] theorem done_apply (i : Instr) (n : Nat) (ws : List Word) : done i n ws = .instr i n := rfl

@[simp] theorem nextWord_cons (k : Word → Reader) (w : Word) (ws : List Word) : nextWord k (w :: ws) = k w ws := rfl

@[simp] theorem longReg_reg0 (r : Reg3) (k : Reg3 → Reader) : longReg (reg0 r) k = k r := by
  simp [longReg]

@[simp] theorem zeroNibble_zero (f : Reader) : zeroNibble 0#4 f = f := rfl

@[simp] theorem imm32Field_cons (k : Long → Reader) (x : Long) (ws : List Word) :
    imm32Field k (hi16 x :: lo16 x :: ws) = k x ws := by
  simp [imm32Field]

theorem addr24Field_cons (k : Long → Reader) {x : Long} (h : topByteZero x = true) (ws : List Word) :
    addr24Field k (hi16 x :: lo16 x :: ws) = k x ws := by
  simp [addr24Field, topByte_hi16 h]

@[simp] theorem done_ite {c : Prop} [Decidable c] {i j : Instr} {n : Nat} :
    done (if c then i else j) n = if c then done i n else done j n := apply_ite (done · n) ..

/-! ## Which table a first word selects -/

theorem decode_ofNibbles (a b c d : Nibble) (ws : List Word) :
    decode (ofNibbles a b c d :: ws) = decodeNibbles a b c d ws := by
  simp [decode]

/-- A row of one word that ends in a long-register field. -/
theorem decode_of_longReg {a b c : Nibble} {r : Reg3} {f : Reg3 → Instr} {ws : List Word}
    (h : decodeNibbles a b c (reg0 r) = longReg (reg0 r) fun r => done (f r) 1) :
    decode (ofNibbles a b c (reg0 r) :: ws) = .instr (f r) 1 := by
  rw [decode_ofNibbles, h, longReg_reg0, done_apply]

theorem decode_word0100 (ws : List Word) : decode (ofNibbles 0x0#4 0x1#4 0x0#4 0x0#4 :: ws) = decode0100 ws := rfl

theorem decode_word0140 (ws : List Word) : decode (ofNibbles 0x0#4 0x1#4 0x4#4 0x0#4 :: ws) = decode0140 ws := rfl

theorem decode_word78 (er : Reg3) (ws : List Word) :
    decode (ofNibbles 0x7#4 0x8#4 (reg0 er) 0x0#4 :: ws) = decode78 er ws := by
  simp [decode_ofNibbles, decodeNibbles, decode7]

theorem decode_word7A (c : Nibble) (erd : Reg3) (ws : List Word) :
    decode (ofNibbles 0x7#4 0xA#4 c (reg0 erd) :: ws) = decode7A c erd ws := by
  simp [decode_ofNibbles, decodeNibbles, decode7]

theorem decode_word7C (er : Reg3) (w : Word) (ws : List Word) :
    decode (ofNibbles 0x7#4 0xC#4 (reg0 er) 0x0#4 :: w :: ws) = decodeBitReadInd er w ws := by
  simp [decode_ofNibbles, decodeNibbles, decode7]

theorem decode_word7D (er : Reg3) (w : Word) (ws : List Word) :
    decode (ofNibbles 0x7#4 0xD#4 (reg0 er) 0x0#4 :: w :: ws) = decodeBitWriteInd er w ws := by
  simp [decode_ofNibbles, decodeNibbles, decode7]

theorem decode_word7E (aa : Byte) (w : Word) (ws : List Word) :
    decode (ofNibbles 0x7#4 0xE#4 (hiN aa) (loN aa) :: w :: ws) = decodeBitReadAa8 aa w ws := by
  simp [decode_ofNibbles, decodeNibbles, decode7]

theorem decode_word7F (aa : Byte) (w : Word) (ws : List Word) :
    decode (ofNibbles 0x7#4 0xF#4 (hiN aa) (loN aa) :: w :: ws) = decodeBitWriteAa8 aa w ws := by
  simp [decode_ofNibbles, decodeNibbles, decode7]

/-! ## Exact readers -/

/-- Having taken the words `pre`, `f` answers only with well-formed instructions whose encoding is `pre` and then the
words that it takes, all of them counted (R116). -/
def Exact (pre : List Word) (f : Reader) : Prop :=
  ∀ ws i n, f ws = .instr i n →
    i.wellFormed = true ∧ n = (encode i).length ∧ ∃ used rest, ws = used ++ rest ∧ encode i = pre ++ used

section
variable {pre : List Word}

@[simp] theorem exact_done {i : Instr} {n : Nat} :
    Exact pre (done i n) ↔ i.wellFormed = true ∧ n = (encode i).length ∧ encode i = pre := by
  constructor
  · intro h
    obtain ⟨hwf, hn, used, rest, hws, henc⟩ := h [] i n rfl
    obtain ⟨rfl, -⟩ := List.append_eq_nil_iff.1 hws.symm
    exact ⟨hwf, hn, by simpa using henc⟩
  · rintro ⟨hwf, hn, henc⟩ ws j m hj
    cases hj
    exact ⟨hwf, hn, [], ws, rfl, by simpa using henc⟩

@[simp] theorem exact_undef : Exact pre undef := fun _ _ _ h => by cases h

@[simp] theorem exact_nextWord {g : Word → Reader} (h : ∀ w, Exact (pre ++ [w]) (g w)) :
    Exact pre (nextWord g) := by
  intro ws i n hi
  cases ws with
  | nil => cases hi
  | cons w ws =>
    obtain ⟨hwf, hn, used, rest, rfl, henc⟩ := h w ws i n hi
    exact ⟨hwf, hn, w :: used, rest, rfl, by simpa using henc⟩

/-- The same, the word cut into its nibbles. -/
theorem exact_nextWord_nibbles {g : Word → Reader}
    (h : ∀ a b c d, Exact (pre ++ [ofNibbles a b c d]) (g (ofNibbles a b c d))) : Exact pre (nextWord g) :=
  exact_nextWord fun w => by simpa using h (nib3 w) (nib2 w) (nib1 w) (nib0 w)

@[simp] theorem exact_ite {c : Prop} [Decidable c] {f g : Reader} :
    Exact pre (if c then f else g) ↔ (c → Exact pre f) ∧ (¬ c → Exact pre g) := by
  split <;> simp_all

@[simp] theorem exact_longReg {n : Nibble} {g : Reg3 → Reader} :
    Exact pre (longReg n g) ↔ ∀ r, n = reg0 r → Exact pre (g r) := by
  constructor
  · rintro h r rfl
    simpa using h
  · exact fun h => exact_ite.2 ⟨fun _ => exact_undef, fun hm => h _ (reg0_lo3 (by simpa using hm)).symm⟩

@[simp] theorem exact_zeroNibble {n : Nibble} {f : Reader} :
    Exact pre (zeroNibble n f) ↔ (n = 0 → Exact pre f) := by
  simp [zeroNibble]

@[simp] theorem exact_imm32Field {g : Long → Reader} (h : ∀ x, Exact (pre ++ [hi16 x, lo16 x]) (g x)) :
    Exact pre (imm32Field g) :=
  exact_nextWord fun w => exact_nextWord fun x => by simpa using h (w ++ x)

@[simp] theorem exact_addr24Field {g : Long → Reader}
    (h : ∀ x, topByteZero x = true → Exact (pre ++ [hi16 x, lo16 x]) (g x)) : Exact pre (addr24Field g) :=
  exact_nextWord fun w => exact_ite.2
    ⟨fun hw => exact_nextWord fun x => by simpa using h (w ++ x) (topByte_append hw), fun _ => exact_undef⟩

end

/-! ## Each table is exact

A branch of a table has its fixed nibbles as literals. A fixed bit or a matched byte it has as a hypothesis, from which
`reg0_lo3`, `reg1_lo3` and `byteOf_eq_iff` give the nibbles of the word back. -/

theorem encode_decodeBcc8 (c : Nibble) (disp : Byte) :
    encode (decodeBcc8 c disp) = [ofNibbles 0x4 c (hiN disp) (loN disp)] := by
  unfold decodeBcc8
  split
  case h_16 =>
    obtain rfl : c = 15 := by revert c; decide
    rfl
  all_goals rfl

theorem wellFormed_decodeBcc8 (c : Nibble) (disp : Byte) : (decodeBcc8 c disp).wellFormed = true := by
  unfold decodeBcc8
  split <;> rfl

theorem encode_decodeBcc16 (c : Nibble) (disp : Word) :
    encode (decodeBcc16 c disp) = [ofNibbles 0x5 0x8 c 0, disp] := by
  unfold decodeBcc16
  split
  case h_16 =>
    obtain rfl : c = 15 := by revert c; decide
    rfl
  all_goals rfl

theorem wellFormed_decodeBcc16 (c : Nibble) (disp : Word) : (decodeBcc16 c disp).wellFormed = true := by
  unfold decodeBcc16
  split <;> rfl

theorem exact_decode0 (b c d : Nibble) : Exact [ofNibbles 0x0 b c d] (decode0 b c d) := by
  unfold decode0
  split <;> (try split) <;> simp +contextual [encode, Instr.wellFormed, reg1_lo3, *]

theorem exact_decode1 (b c d : Nibble) : Exact [ofNibbles 0x1 b c d] (decode1 b c d) := by
  unfold decode1
  split <;> (try split) <;> simp +contextual [encode, Instr.wellFormed, reg1_lo3, *]

theorem exact_decode5 (b c d : Nibble) : Exact [ofNibbles 0x5 b c d] (decode5 b c d) := by
  unfold decode5
  split
  case h_5 | h_7 => simp +contextual [encode, Instr.wellFormed, byteOf_eq_iff, hiN, loN]
  case h_9 =>
    exact exact_zeroNibble.2 fun hd => exact_nextWord fun w => by
      simp [encode_decodeBcc16, wellFormed_decodeBcc16, hd]
  case h_16 =>
    obtain rfl : b = 15 := by revert b; decide
    simp [encode, Instr.wellFormed]
  all_goals simp +contextual [encode, Instr.wellFormed, vec0_of]

theorem exact_decode6 (b c d : Nibble) : Exact [ofNibbles 0x6 b c d] (decode6 b c d) := by
  unfold decode6
  split
  case h_16 =>
    obtain rfl : b = 15 := by revert b; decide
    simp +contextual [encode, Instr.wellFormed, reg0_lo3, reg1_lo3]
  all_goals (try split) <;> simp +contextual [encode, Instr.wellFormed, reg0_lo3, reg1_lo3, *]

theorem exact_decode78 (er : Reg3) : Exact [ofNibbles 0x7 0x8 (reg0 er) 0] (decode78 er) := by
  refine exact_nextWord_nibbles fun a b c d => ?_
  simp only [nib3_ofNibbles, nib2_ofNibbles, nib1_ofNibbles, nib0_ofNibbles]
  split <;> simp_all +contextual [encode, Instr.wellFormed, byteOf_eq_iff, hiN, loN]

theorem exact_decode79 (c rd : Nibble) : Exact [ofNibbles 0x7 0x9 c rd] (decode79 c rd) := by
  unfold decode79
  split <;> simp [encode, Instr.wellFormed]

theorem exact_decode7A (c : Nibble) (erd : Reg3) : Exact [ofNibbles 0x7 0xA c (reg0 erd)] (decode7A c erd) := by
  unfold decode7A
  split <;> simp [encode, Instr.wellFormed]

theorem exact_decodeBitReadInd (er : Reg3) :
    Exact [ofNibbles 0x7 0xC (reg0 er) 0] (nextWord (decodeBitReadInd er)) := by
  refine exact_nextWord_nibbles fun a b c d => ?_
  simp only [decodeBitReadInd, nib3_ofNibbles, nib2_ofNibbles, nib1_ofNibbles, nib0_ofNibbles, exact_zeroNibble]
  rintro rfl
  split <;> simp_all [encode, Instr.wellFormed, byteOf_eq_iff, hiN, loN, reg0_lo3, reg1_lo3]

theorem exact_decodeBitWriteInd (er : Reg3) :
    Exact [ofNibbles 0x7 0xD (reg0 er) 0] (nextWord (decodeBitWriteInd er)) := by
  refine exact_nextWord_nibbles fun a b c d => ?_
  simp only [decodeBitWriteInd, nib3_ofNibbles, nib2_ofNibbles, nib1_ofNibbles, nib0_ofNibbles, exact_zeroNibble]
  rintro rfl
  split <;> simp_all [encode, Instr.wellFormed, byteOf_eq_iff, hiN, loN, reg0_lo3, reg1_lo3]

theorem exact_decodeBitReadAa8 (aa : Byte) :
    Exact [ofNibbles 0x7 0xE (hiN aa) (loN aa)] (nextWord (decodeBitReadAa8 aa)) := by
  refine exact_nextWord_nibbles fun a b c d => ?_
  simp only [decodeBitReadAa8, nib3_ofNibbles, nib2_ofNibbles, nib1_ofNibbles, nib0_ofNibbles, exact_zeroNibble]
  rintro rfl
  split <;> simp_all [encode, Instr.wellFormed, byteOf_eq_iff, hiN, loN, reg0_lo3, reg1_lo3]

theorem exact_decodeBitWriteAa8 (aa : Byte) :
    Exact [ofNibbles 0x7 0xF (hiN aa) (loN aa)] (nextWord (decodeBitWriteAa8 aa)) := by
  refine exact_nextWord_nibbles fun a b c d => ?_
  simp only [decodeBitWriteAa8, nib3_ofNibbles, nib2_ofNibbles, nib1_ofNibbles, nib0_ofNibbles, exact_zeroNibble]
  rintro rfl
  split <;> simp_all [encode, Instr.wellFormed, byteOf_eq_iff, hiN, loN, reg0_lo3, reg1_lo3]

theorem exact_decode7 (b c d : Nibble) : Exact [ofNibbles 0x7 b c d] (decode7 b c d) := by
  unfold decode7
  split
  case h_9 =>
    refine exact_longReg.2 fun er hc => exact_zeroNibble.2 fun hd => ?_
    subst hc hd
    exact exact_decode78 er
  case h_10 => exact exact_decode79 c d
  case h_11 => 
    refine exact_longReg.2 fun erd hd => ?_
    subst hd
    exact exact_decode7A c erd
  case h_12 =>
    split
    case h_3 => exact exact_undef
    all_goals
      obtain ⟨rfl, rfl⟩ := byteOf_eq_iff.1 ‹byteOf _ _ = _›
      refine exact_nextWord fun w => exact_ite.2 ⟨?_, fun _ => exact_undef⟩
      rintro rfl
      exact exact_done.2 ⟨rfl, rfl, rfl⟩
  case h_13 =>
    refine exact_longReg.2 fun er hc => exact_zeroNibble.2 fun hd => ?_
    subst hc hd
    exact exact_decodeBitReadInd er
  case h_14 =>
    refine exact_longReg.2 fun er hc => exact_zeroNibble.2 fun hd => ?_
    subst hc hd
    exact exact_decodeBitWriteInd er
  case h_15 => simpa using exact_decodeBitReadAa8 (byteOf c d)
  case h_16 =>
    obtain rfl : b = 15 := by revert b; decide
    simpa using exact_decodeBitWriteAa8 (byteOf c d)
  all_goals simp +contextual [encode, Instr.wellFormed, reg0_lo3, reg1_lo3]

theorem exact_decode0100 : Exact [ofNibbles 0x0 0x1 0x0 0x0] decode0100 := by
  refine exact_nextWord_nibbles fun a b c d => ?_
  simp only [nib3_ofNibbles, nib2_ofNibbles, nib1_ofNibbles, nib0_ofNibbles]
  split
  case h_5 =>
    obtain ⟨rfl, rfl⟩ := byteOf_eq_iff.1 ‹byteOf _ _ = _›
    refine exact_zeroNibble.2 ?_
    rintro rfl
    refine exact_nextWord_nibbles fun a' b' c' d' => ?_
    simp only [nib3_ofNibbles, nib2_ofNibbles, nib1_ofNibbles, nib0_ofNibbles]
    split <;> simp_all +contextual [encode, Instr.wellFormed, byteOf_eq_iff, hiN, loN, reg0_lo3, reg1_lo3]
  all_goals (try split) <;>
    simp_all +contextual [encode, Instr.wellFormed, byteOf_eq_iff, hiN, loN, reg0_lo3, reg1_lo3]

theorem exact_decode0140 : Exact [ofNibbles 0x0 0x1 0x4 0x0] decode0140 := by
  refine exact_nextWord_nibbles fun a b c d => ?_
  simp only [nib3_ofNibbles, nib2_ofNibbles, nib1_ofNibbles, nib0_ofNibbles]
  split
  case h_5 =>
    obtain ⟨rfl, rfl⟩ := byteOf_eq_iff.1 ‹byteOf _ _ = _›
    refine exact_longReg.2 fun er hc => exact_zeroNibble.2 fun hd => exact_nextWord fun w => ?_
    subst hc hd
    split
    case h_3 => exact exact_undef
    all_goals exact exact_addr24Field fun x hx => exact_done.2 ⟨hx, rfl, rfl⟩
  all_goals (try split) <;>
    simp_all +contextual [encode, Instr.wellFormed, byteOf_eq_iff, hiN, loN, reg0_lo3, reg1_lo3]

theorem exact_decode01 (c d : Nibble) : Exact [ofNibbles 0x0 0x1 c d] (decode01 c d) := by
  unfold decode01
  split
  case h_1 =>
    obtain ⟨rfl, rfl⟩ := byteOf_eq_iff.1 ‹byteOf _ _ = _›
    exact exact_decode0100
  case h_2 =>
    obtain ⟨rfl, rfl⟩ := byteOf_eq_iff.1 ‹byteOf _ _ = _›
    exact exact_decode0140
  case h_3 | h_7 => simp_all [encode, Instr.wellFormed, byteOf_eq_iff, hiN, loN]
  all_goals
    refine exact_nextWord_nibbles fun a b c' d' => ?_
    simp only [nib3_ofNibbles, nib2_ofNibbles, nib1_ofNibbles, nib0_ofNibbles]
    split <;> simp_all +contextual [encode, Instr.wellFormed, byteOf_eq_iff, hiN, loN]

theorem exact_decodeNibbles (a b c d : Nibble) : Exact [ofNibbles a b c d] (decodeNibbles a b c d) := by
  unfold decodeNibbles
  split
  case h_1 =>
    refine exact_ite.2 ⟨?_, fun _ => exact_decode0 b c d⟩
    rintro rfl
    exact exact_decode01 c d
  case h_2 => exact exact_decode1 b c d
  case h_5 => simp [encode_decodeBcc8, wellFormed_decodeBcc8]
  case h_6 => exact exact_decode5 b c d
  case h_7 => exact exact_decode6 b c d
  case h_8 => exact exact_decode7 b c d
  case h_16 =>
    obtain rfl : a = 15 := by revert a; decide
    simp [encode, Instr.wellFormed]
  all_goals simp [encode, Instr.wellFormed]

theorem exact_decode : Exact [] decode :=
  exact_nextWord fun w => by simpa using exact_decodeNibbles (nib3 w) (nib2 w) (nib1 w) (nib0 w)

/-! ## The claims -/

/-- Settles O11: every table of the decoder is exact. -/
theorem encodeDecode : Obligations.EncodeDecode := by
  intro ws i n h
  obtain ⟨hwf, hn, used, rest, rfl, henc⟩ := exact_decode ws i n h
  exact ⟨hwf, hn, by simp [hn, henc]⟩

/-- Settles O10, row by row: rows without a field are evaluated; in the next two groups the table answers with the
fields as they stand; then come the rows with a field that is checked or put together, by table. -/
theorem decodeEncode : Obligations.DecodeEncode := by
  intro i xs hwf
  cases i with
  | rts | rte | nop | sleep | eepmovB | eepmovW => rfl
  | movB_rs_rd | movB_aa16_rd | movB_rs_aa16 | movW_rs_rd | movW_imm_rd | movW_aa16_rd | movW_rs_aa16
  | movfpe_aa16_rd | movtpe_rs_aa16 | addB_rs_rd | addW_imm_rd | addW_rs_rd | addx_rs_rd | subB_rs_rd | subW_imm_rd
  | subW_rs_rd | subx_rs_rd | cmpB_rs_rd | cmpW_imm_rd | cmpW_rs_rd | negB | negW | daa | das | mulxuB_rs_rd
  | divxuB_rs_rd | incB | incW_1 | incW_2 | decB | decW_1 | decW_2 | extuW | extsW | andB_rs_rd | andW_imm_rd
  | andW_rs_rd | orB_rs_rd | orW_imm_rd | orW_rs_rd | xorB_rs_rd | xorW_imm_rd | xorW_rs_rd | notB | notW | shalB
  | shalW | sharB | sharW | shllB | shllW | shlrB | shlrW | rotlB | rotlW | rotrB | rotrW | rotxlB | rotxlW
  | rotxrB | rotxrW | bset_rn_rd | bclr_rn_rd | bnot_rn_rd | btst_rn_rd | bra_d16 | brn_d16 | bhi_d16 | bls_d16
  | bcc_d16 | bcs_d16 | bne_d16 | beq_d16 | bvc_d16 | bvs_d16 | bpl_d16 | bmi_d16 | bge_d16 | blt_d16 | bgt_d16
  | ble_d16 | bsr_d16 | ldc_rs | stc_rd =>
    exact decode_ofNibbles ..
  | adds_1 | adds_2 | adds_4 | subs_1 | subs_2 | subs_4 | incL_1 | incL_2 | decL_1 | decL_2 | negL | extuL | extsL
  | notL | shalL | sharL | shllL | shlrL | rotlL | rotrL | rotxlL | rotxrL | mulxuW_rs_erd | divxuW_rs_erd =>
    exact decode_of_longReg rfl
  | movB_imm_rd | movB_aa8_rd | movB_rs_aa8 | addB_imm_rd | addx_imm_rd | subx_imm_rd | cmpB_imm_rd | andB_imm_rd
  | orB_imm_rd | xorB_imm_rd =>
    simp [encode, decode_ofNibbles, decodeNibbles]
  | movL_ers_erd | addL_ers_erd | andc | orc | xorc | ldc_imm =>
    simp [encode, decode_ofNibbles, decodeNibbles, decode0]
  | movL_ind_erd | movL_d16_erd | movL_postInc_erd | movL_aa16_erd | movL_ers_ind | movL_ers_d16 | movL_ers_preDec
  | movL_ers_aa16 =>
    simp [encode, decode_word0100, decode0100, byteOf]
  | movL_d24_erd | movL_aa24_erd | movL_ers_d24 | movL_ers_aa24 =>
    simp [encode, decode_word0100, decode0100, byteOf, addr24Field_cons _ hwf]
  | ldc_ind | ldc_d16 | ldc_postInc | ldc_aa16 | stc_ind | stc_d16 | stc_preDec | stc_aa16 =>
    simp [encode, decode_word0140, decode0140, byteOf]
  | ldc_aa24 | stc_aa24 =>
    simp [encode, decode_word0140, decode0140, byteOf, addr24Field_cons _ hwf]
  | ldc_d24 | stc_d24 =>
    simp [encode, decode_word0140, decode0140, byteOf, addr24Field_cons _ hwf,
      show ofNibbles 0x6#4 0xB#4 0x2#4 0x0#4 = 0x6B20#16 from rfl,
      show ofNibbles 0x6#4 0xB#4 0xA#4 0x0#4 = 0x6BA0#16 from rfl]
  | mulxsB_rs_rd | mulxsW_rs_erd | divxsB_rs_rd | divxsW_rs_erd | andL_ers_erd | orL_ers_erd | xorL_ers_erd =>
    simp [encode, decode_ofNibbles, decodeNibbles, decode01, byteOf]
  | subL_ers_erd | cmpL_ers_erd =>
    simp [encode, decode_ofNibbles, decodeNibbles, decode1]
  | bra_d8 | brn_d8 | bhi_d8 | bls_d8 | bcc_d8 | bcs_d8 | bne_d8 | beq_d8 | bvc_d8 | bvs_d8 | bpl_d8 | bmi_d8
  | bge_d8 | blt_d8 | bgt_d8 | ble_d8 =>
    simp [encode, decode_ofNibbles, decodeNibbles, decodeBcc8]
  | jmp_ind | jmp_aa24 | jmp_memInd | jsr_ind | jsr_aa24 | jsr_memInd | bsr_d8 | trapa =>
    simp [encode, decode_ofNibbles, decodeNibbles, decode5]
  | movB_ind_rd | movB_d16_rd | movB_postInc_rd | movB_rs_ind | movB_rs_d16 | movB_rs_preDec | movW_ind_rd
  | movW_d16_rd | movW_postInc_rd | movW_rs_ind | movW_rs_d16 | movW_rs_preDec | bst_imm_rd | bist_imm_rd =>
    simp [encode, decode_ofNibbles, decodeNibbles, decode6]
  | movB_aa24_rd | movB_rs_aa24 | movW_aa24_rd | movW_rs_aa24 =>
    simp [encode, decode_ofNibbles, decodeNibbles, decode6, addr24Field_cons _ hwf]
  | bset_imm_rd | bclr_imm_rd | bnot_imm_rd | btst_imm_rd | band_imm_rd | biand_imm_rd | bor_imm_rd | bior_imm_rd
  | bxor_imm_rd | bixor_imm_rd | bld_imm_rd | bild_imm_rd =>
    simp [encode, decode_ofNibbles, decodeNibbles, decode7]
  | movB_d24_rd | movB_rs_d24 | movW_d24_rd | movW_rs_d24 =>
    simp [encode, decode_word78, decode78, byteOf, addr24Field_cons _ hwf]
  | movL_imm_erd | addL_imm_erd | subL_imm_erd | cmpL_imm_erd | andL_imm_erd | orL_imm_erd | xorL_imm_erd =>
    simp [encode, decode_word7A, decode7A]
  | btst_imm_ind | band_imm_ind | biand_imm_ind | bor_imm_ind | bior_imm_ind | bxor_imm_ind | bixor_imm_ind
  | bld_imm_ind | bild_imm_ind =>
    simp [encode, decode_word7C, decodeBitReadInd, byteOf]
  | bset_imm_ind | bclr_imm_ind | bnot_imm_ind | bst_imm_ind | bist_imm_ind =>
    simp [encode, decode_word7D, decodeBitWriteInd, byteOf]
  | btst_imm_aa8 | band_imm_aa8 | biand_imm_aa8 | bor_imm_aa8 | bior_imm_aa8 | bxor_imm_aa8 | bixor_imm_aa8
  | bld_imm_aa8 | bild_imm_aa8 =>
    simp [encode, decode_word7E, decodeBitReadAa8, byteOf]
  | bset_imm_aa8 | bclr_imm_aa8 | bnot_imm_aa8 | bst_imm_aa8 | bist_imm_aa8 =>
    simp [encode, decode_word7F, decodeBitWriteAa8, byteOf]
  | btst_rn_ind rn | bset_rn_ind rn | bclr_rn_ind rn | bnot_rn_ind rn =>
    induction rn using nibble_cases <;>
      simp [encode, decode_word7C, decode_word7D, decodeBitReadInd, decodeBitWriteInd, byteOf]
  | btst_rn_aa8 rn | bset_rn_aa8 rn | bclr_rn_aa8 rn | bnot_rn_aa8 rn =>
    induction rn using nibble_cases <;>
      simp [encode, decode_word7E, decode_word7F, decodeBitReadAa8, decodeBitWriteAa8, byteOf]

/-- Settles O12: both instructions are what the decoder makes of the same words. -/
theorem encodingsUnambiguous : Obligations.EncodingsUnambiguous := by
  intro i j xs ys hi hj h
  have hdecode := (decodeEncode i xs hi).symm.trans (h ▸ decodeEncode j ys hj)
  cases hdecode
  rfl

/-- Settles O13: the words are given, and the decoder evaluates on them. -/
theorem sampleWordsDecode : Obligations.SampleWordsDecode := by
  unfold Obligations.SampleWordsDecode
  decide

/-- R100: no instruction has more than five words. -/
theorem length_encode_le (i : Instr) : (encode i).length ≤ maxWords := by
  cases i <;> exact Nat.le_of_ble_eq_true rfl

/-- Before the last word of an instruction the decoder asks for more (R102). -/
theorem decode_take_needMore {ws : List Word} {i : Instr} (h : decode ws = .instr i ws.length) {k : Nat}
    (hk : k < ws.length) : decode (ws.take k) = .needMore :=
  reads_decode.needs (ws.take k) (ws.drop k) i ws.length (by simpa using h) (by simpa using hk)

end Sys2Proof

namespace Sys2Proof.Machine

/-- The fetch stops on the last word of the instruction that the words at PC decode to (R102). -/
theorem State.fetchInstr_of_decode {s : State} {i : Instr} {ws : List Word} (hws : s.fetchedWords ws.length = ws)
    (h : decode ws = .instr i ws.length) : s.fetchInstr = ⟨some i, ws, s.afterFetch ws.length⟩ := by
  have hne : ws ≠ [] := by rintro rfl; cases h
  have hlen : ws.length ≤ maxWords := by
    obtain ⟨-, hn, -⟩ := encodeDecode ws i ws.length h
    exact hn ▸ length_encode_le i
  exact (State.fetchFrom_spec ws [] s hws hne (fun _ _ hk => decode_take_needMore h hk) hlen).1 i _ h

/-- Settles O5: the vector is loaded already, the fetch ends on the instruction's last word, and what remains is to run
it and tick. -/
theorem stepRunsDecodedInstruction : Obligations.StepRunsDecodedInstruction := by
  refine ⟨fun s i ws hinit hws hdecode => ?_, fun s n hn _ hquiet => ⟨s.fetchedWords_quiet n hquiet, ?_⟩,
    fun s t h => ?_⟩
  · rw [step, s.loadVector_spec.1 hinit, State.fetchInstr_of_decode hws hdecode]
    rfl
  · obtain ⟨m, rfl⟩ := Nat.exists_eq_add_of_le' hn
    exact s.afterFetch_quiet m hquiet
  · obtain ⟨u, hu, rfl⟩ := tick_next h
    cases hu
    rfl

end Sys2Proof.Machine
end

section
/-! SUPPORT. The claims about data transfer (40_data_transfer.md): each instruction is one shared operand operation, and
the law of that operation says the rest. The stack round trips join the law of a push with that of a pop. -/

namespace Sys2Proof.Machine

/-! ## Effective addresses -/

/-- A displacement is sign-extended to all 32 bits, and its low 16 bits alone reach the address (R142, R143). -/
theorem setWidth16_add_signExtend {w : Nat} (x : Long) (d : BitVec w) (h : 16 ≤ w) :
    (x + d.signExtend 32).setWidth 16 = x.extractLsb' 0 16 + d.setWidth 16 := by
  have low : (d.signExtend 32).setWidth 16 = d.setWidth 16 := by
    ext i hi
    have hw : i < w := by omega
    have hl : i < 32 := by omega
    simp [BitVec.getElem_signExtend, hw, hl]
  rw [BitVec.setWidth_add _ _ (by decide), low, setWidth16_eq]

theorem State.eaD24_setWidth (s : State) (d : BitVec 24) (n : Reg3) :
    s.eaD24 (d.setWidth 32) n = (s.reg n + d.signExtend 32).extractLsb' 0 16 := by
  have whole : (d.setWidth 32).setWidth 24 = d := by
    rw [BitVec.setWidth_setWidth_of_le d (by decide), BitVec.setWidth_eq]
  rw [State.eaD24, whole, setWidth16_eq]

theorem eaAa8_eq_or (aa : Byte) : eaAa8 aa = 0xFF00 ||| aa.setWidth 16 := by
  unfold eaAa8
  rw [BitVec.append_def]
  rfl

/-- Settles O25: an address is the low 16 bits of a sum, and they are the sum of the low 16 bits. -/
theorem effectiveAddresses : Obligations.EffectiveAddresses := by
  refine fun s n => ⟨setWidth16_eq _, fun d => ⟨?_, setWidth16_eq _⟩, fun d => ?_, fun d => s.eaD24_setWidth d n,
    eaAa8_eq_or, fun _ => rfl, fun aa => setWidth16_eq aa⟩
  · rw [State.eaD16, setWidth16_add_signExtend _ _ (by decide), BitVec.setWidth_eq]
  · rw [State.eaD24, setWidth16_add_signExtend _ _ (by decide), BitVec.setWidth_setWidth_of_le d (by decide),
      setWidth16_eq]

/-! ## Moves, loads and stores -/

/-- Settles O26: six register results, two of each width. -/
theorem movRegister : Obligations.MovRegister := fun s =>
  ⟨fun _ rd => ⟨_, rfl, s.moveB_spec rd _⟩, fun _ rd => ⟨_, rfl, s.moveB_spec rd _⟩,
    fun _ rd => ⟨_, rfl, s.moveW_spec rd _⟩, fun _ rd => ⟨_, rfl, s.moveW_spec rd _⟩,
    fun _ erd => ⟨_, rfl, s.moveL_spec erd _⟩, fun _ erd => ⟨_, rfl, s.moveL_spec erd _⟩⟩

/-- Settles O27: the seven forms are one byte load, at their effective addresses. -/
theorem byteLoads : Obligations.ByteLoads := by
  intro s i ea rd hform
  have hexec : exec i s = .next (s.loadB ea rd) := by
    rcases hform with ⟨_, rfl, rfl⟩ | ⟨_, _, rfl, rfl⟩ | ⟨_, _, rfl, rfl⟩ | ⟨_, rfl, rfl⟩ | ⟨_, rfl, rfl⟩
      | ⟨_, rfl, rfl⟩ | ⟨_, rfl, rfl⟩ <;> rfl
  exact ⟨_, hexec, s.loadB_spec ea rd⟩

/-- Settles O28: the five forms are one word load. -/
theorem wordLoads : Obligations.WordLoads := by
  intro s i ea rd hform
  have hexec : exec i s = .next (s.loadW ea rd) := by
    rcases hform with ⟨_, rfl, rfl⟩ | ⟨_, _, rfl, rfl⟩ | ⟨_, _, rfl, rfl⟩ | ⟨_, rfl, rfl⟩ | ⟨_, rfl, rfl⟩ <;> rfl
  exact ⟨_, hexec, s.loadW_spec ea rd⟩

/-- Settles O29: the five forms are one long load. -/
theorem longLoads : Obligations.LongLoads := by
  intro s i ea erd hform
  have hexec : exec i s = .next (s.loadL ea erd) := by
    rcases hform with ⟨_, rfl, rfl⟩ | ⟨_, _, rfl, rfl⟩ | ⟨_, _, rfl, rfl⟩ | ⟨_, rfl, rfl⟩ | ⟨_, rfl, rfl⟩ <;> rfl
  exact ⟨_, hexec, s.loadL_spec ea erd⟩

/-- Settles O30: one post-increment load of each width. -/
theorem postIncrementLoads : Obligations.PostIncrementLoads := fun s ers =>
  ⟨fun rd => ⟨_, rfl, s.loadPostB_spec ers rd⟩, fun rd => ⟨_, rfl, s.loadPostW_spec ers rd⟩,
    fun erd => ⟨_, rfl, s.loadPostL_spec ers erd⟩⟩

/-- Settles O31: the seven forms are one byte store, at their effective addresses. -/
theorem byteStores : Obligations.ByteStores := by
  intro s i ea rs hform
  have hexec : exec i s = .next (s.storeB ea (s.r8 rs)) := by
    rcases hform with ⟨_, rfl, rfl⟩ | ⟨_, _, rfl, rfl⟩ | ⟨_, _, rfl, rfl⟩ | ⟨_, rfl, rfl⟩ | ⟨_, rfl, rfl⟩
      | ⟨_, rfl, rfl⟩ | ⟨_, rfl, rfl⟩ <;> rfl
  exact ⟨_, hexec, s.storeB_spec ea (s.r8 rs)⟩

/-- Settles O32: the five forms are one word store. -/
theorem wordStores : Obligations.WordStores := by
  intro s i ea rs hform
  have hexec : exec i s = .next (s.storeW ea (s.r16 rs)) := by
    rcases hform with ⟨_, rfl, rfl⟩ | ⟨_, _, rfl, rfl⟩ | ⟨_, _, rfl, rfl⟩ | ⟨_, rfl, rfl⟩ | ⟨_, rfl, rfl⟩ <;> rfl
  exact ⟨_, hexec, s.storeW_spec ea (s.r16 rs)⟩

/-- Settles O33: the five forms are one long store. -/
theorem longStores : Obligations.LongStores := by
  intro s i ea ers hform
  have hexec : exec i s = .next (s.storeL ea (s.reg ers)) := by
    rcases hform with ⟨_, rfl, rfl⟩ | ⟨_, _, rfl, rfl⟩ | ⟨_, _, rfl, rfl⟩ | ⟨_, rfl, rfl⟩ | ⟨_, rfl, rfl⟩ <;> rfl
  exact ⟨_, hexec, s.storeL_spec ea (s.reg ers)⟩

/-- Settles O34: one pre-decrement store of each width, its source read from the decremented file. -/
theorem preDecrementStores : Obligations.PreDecrementStores := by
  refine fun s erd => ⟨fun rs => ⟨_, rfl, ?_⟩, fun rs => ⟨_, rfl, ?_⟩, fun ers => ⟨_, rfl, ?_⟩⟩ <;> rintro _ rfl
  exacts [s.storePreB_spec rs erd, s.storePreW_spec rs erd, s.storePreL_spec ers erd]

/-! ## Registers that come back -/

/-- Writing a long register with what it holds changes no register. -/
theorem OnlyLong.noRegister {s t : State} {n : Reg3} (h : OnlyLong s t n (s.reg n)) : NoRegister s t := by
  obtain ⟨hsame, hother⟩ := h
  intro m
  by_cases hm : m = n
  · exact hm ▸ hsame
  · exact hother m hm

/-- A long is its high word before its low word. -/
theorem halves_append (x : Long) : x.extractLsb' 16 16 ++ x.extractLsb' 0 16 = x :=
  BitVec.extractLsb'_append_extractLsb'

/-- The same for a word register: a long register is its two word views (R21). -/
theorem OnlyWord.noRegister {s t : State} {r : Reg4} (h : OnlyWord s t r (s.r16 r)) : NoRegister s t := by
  obtain ⟨hsame, hother⟩ := h
  have hviews : ∀ q, t.r16 q = s.r16 q := by
    intro q
    by_cases hq : q = r
    · exact hq ▸ hsame
    · exact hother q hq
  intro n
  have hhigh := hviews (1#1 ++ n)
  have hlow := hviews (0#1 ++ n)
  obtain ⟨⟨low_reg, low_msb⟩, high_reg, high_msb⟩ := viewField n
  simp only [State.r16, low_reg, low_msb, high_reg, high_msb, if_true, Bool.false_eq_true, if_false] at hhigh hlow
  rw [← halves_append (t.reg n), hhigh, hlow, halves_append]

/-- An address register decremented and then incremented by the same size is what it was. -/
theorem OnlyLong.noRegister_of_add_back {s t u : State} {n : Reg3} {k : Long} (hdec : OnlyLong s t n (s.reg n - k))
    (hinc : OnlyLong t u n (t.reg n + k)) : NoRegister s u := by
  intro m
  by_cases hm : m = n
  · rw [hm, hinc.1, hdec.1, BitVec.sub_add_cancel]
  · rw [hinc.2 m hm, hdec.2 m hm]

/-! ## Stack round trips -/

/-- PUSH.W and POP.W: the word popped is the one pushed, and the stack pointer comes back (R163). -/
theorem State.loadPostW_storePreW (s : State) {rn : Reg4} (hram : InRam (evenAddr ((s.reg 7 - 2).setWidth 16)))
    (hrn : viewReg rn ≠ 7) : NoRegister s ((s.storePreW rn 7).loadPostW 7 rn) := by
  obtain ⟨hdec, -, hstore, -⟩ := s.storePreW_spec rn 7
  obtain ⟨hload, -⟩ := (s.storePreW rn 7).loadPostW_spec 7 rn
  have hsource : (s.setReg 7 (s.reg 7 - 2)).r16 rn = s.r16 rn := by rw [State.r16_setReg, if_neg hrn]
  have hpopped : wordAt (s.storePreW rn 7) ((s.storePreW rn 7).eaInd 7) = s.r16 rn := by
    rw [State.eaInd, hdec.1, ← hsource]
    exact hstore.wordAt_stored (List.Subset.refl _) hram
  have hback := hdec.noRegister_of_add_back (State.onlyLong_setReg _ _ _)
  rw [hpopped] at hload
  exact (hload.of_er (State.er_ext hback).symm rfl).noRegister

/-- PUSH.L and POP.L (R163). -/
theorem State.loadPostL_storePreL (s : State) {ern : Reg3} (hram4 : InRam (evenAddr ((s.reg 7 - 4).setWidth 16)))
    (hram2 : InRam (evenAddr ((s.reg 7 - 2).setWidth 16))) (hern : ern ≠ 7) :
    NoRegister s ((s.storePreL ern 7).loadPostL 7 ern) := by
  obtain ⟨hdec, -, hstore, -⟩ := s.storePreL_spec ern 7
  obtain ⟨hload, -⟩ := (s.storePreL ern 7).loadPostL_spec 7 ern
  have hnext : (s.reg 7 - 4).setWidth 16 + 2 = (s.reg 7 - 2).setWidth 16 := by
    refine BitVec.eq_of_toNat_eq ?_
    simp only [BitVec.toNat_add, BitVec.toNat_setWidth, BitVec.toNat_sub, BitVec.reduceToNat]
    omega
  rw [State.reg_setReg_other _ _ hern] at hstore
  have hpopped : longAt (s.storePreL ern 7) ((s.storePreL ern 7).eaInd 7) = s.reg ern := by
    rw [longAt, State.eaInd, hdec.1, hstore.wordAt_stored (List.subset_append_left ..) hram4,
      hstore.wordAt_stored (List.subset_append_right ..) (hnext ▸ hram2)]
    exact BitVec.extractLsb'_append_extractLsb'
  have hback := hdec.noRegister_of_add_back (State.onlyLong_setReg _ _ _)
  rw [hpopped] at hload
  exact (hload.of_er (State.er_ext hback).symm rfl).noRegister

/-- Every JSR and BSR is a call, and finding its target changes nothing (R264, R266). -/
theorem exec_call (s : State) (i : Instr)
    (h : (∃ ern, i = .jsr_ind ern) ∨ (∃ aa, i = .jsr_aa24 aa) ∨ (∃ aa, i = .jsr_memInd aa)
      ∨ (∃ d, i = .bsr_d8 d) ∨ ∃ d, i = .bsr_d16 d) :
    ∃ target, exec i s = .next (s.call target) := by
  rcases h with ⟨_, rfl⟩ | ⟨_, rfl⟩ | ⟨aa, rfl⟩ | ⟨_, rfl⟩ | ⟨_, rfl⟩
  · exact ⟨_, rfl⟩
  · exact ⟨_, rfl⟩
  · have hjsr : exec (.jsr_memInd aa) s = execJsr_memInd aa s := rfl
    exact ⟨_, by rw [hjsr, execJsr_memInd, s.read16_rom aa]⟩
  · exact ⟨_, rfl⟩
  · exact ⟨_, rfl⟩

/-- What RTS does after a call: PC is the word pushed, and the stack pointer and the flags come back (R264 to R267). -/
theorem State.call_return (s : State) (target : Long) (hram : InRam (evenAddr ((s.reg 7 - 2).setWidth 16))) :
    Completes .rts (s.call target) fun u =>
      u.pc = (s.pc.extractLsb' 0 16).setWidth 32 ∧ NoRegister s u ∧ SameFlags s u := by
  obtain ⟨-, hdec, hflags, hstore⟩ := s.call_spec target
  obtain ⟨hpc, hinc, hflags', -⟩ := (s.call target).pop16_setPc_spec
  refine ⟨_, rfl, ?_, hdec.noRegister_of_add_back hinc, hflags'.trans hflags⟩
  rw [← setWidth16_eq (s.reg 7 - 2)] at hstore
  rw [hpc, State.eaInd, hdec.1, hstore.wordAt_stored (List.Subset.refl _) hram]

/-- Settles O56: each pair of instructions is one push and one pop at the same address in RAM. -/
theorem stackRoundTrips : Obligations.StackRoundTrips := by
  refine ⟨fun s rn hram hrn => ?_, fun s ern hram4 hram2 hern => ?_, fun s i hram hcall => ?_⟩
  · exact ⟨_, rfl, _, rfl, s.loadPostW_storePreW hram hrn⟩
  · exact ⟨_, rfl, _, rfl, s.loadPostL_storePreL hram4 hram2 hern⟩
  · obtain ⟨target, hexec⟩ := exec_call s i hcall
    exact ⟨_, hexec, s.call_return target hram⟩

end Sys2Proof.Machine
end

section
/-! SUPPORT. The claims about arithmetic (41_arithmetic.md): the law of a shared result operation says what changes, and
a lemma on numbers at every width says what the result and the flags are. `Only` stands for whichever of `OnlyByte`,
`OnlyWord`, `OnlyLong` and `NoRegister` fits the destination. -/

namespace Sys2Proof.Machine

/-! ## Sums and differences -/

/-- A carry or borrow as a number. -/
theorem ofNat_carry (w : Nat) (c : Bool) : BitVec.ofNat w c.toNat = if c then 1 else 0 := by
  cases c <;> rfl

/-- What the laws of the operations that write a value with its flags say: `Only` of the value, the flags with `z` for Z,
nothing else. -/
def WritesResult {w : Nat} (s t : State) (Only : BitVec w → Prop) (x : BitVec w × ArithFlags) (z : Bool) : Prop :=
  Only x.1 ∧ FlagsAre s t x.2.h x.2.n z x.2.v x.2.c ∧ Quiet s t

/-- An operation that writes `addN`'s value and flags adds (R9). Z is the result's, or where it is sticky that and
`keep`, the old Z. -/
theorem sum_of_addN {w : Nat} (hw : 0 < w) {s t : State} {Only : BitVec w → Prop} {a b : BitVec w} {cin : Bool}
    (keep : Bool)
    (h : WritesResult s t Only (addN a b cin) (keep && (addN a b cin).2.z)) :
    ∀ r, r = a + b + (if cin then 1 else 0) →
      Only r ∧ SumFlags s t a b cin (keep && decide (r = 0)) ∧ Quiet s t := by
  rintro r rfl
  obtain ⟨honly, hflags, hquiet⟩ := h
  have hr := addN_value a b cin
  rw [ofNat_carry] at hr
  rw [← hr]
  exact ⟨honly, SumFlags.of_addN hw a b cin _ hflags, hquiet⟩

/-- An operation that writes `subN`'s value and flags subtracts (R9), with Z as for a sum. -/
theorem difference_of_subN {w : Nat} (hw : 0 < w) {s t : State} {Only : BitVec w → Prop} {a b : BitVec w} {bin : Bool}
    (keep : Bool)
    (h : WritesResult s t Only (subN a b bin) (keep && (subN a b bin).2.z)) :
    ∀ r, r = a - b - (if bin then 1 else 0) →
      Only r ∧ DifferenceFlags s t a b bin (keep && decide (r = 0)) ∧ Quiet s t := by
  rintro r rfl
  obtain ⟨honly, hflags, hquiet⟩ := h
  have hr := subN_value a b bin
  rw [ofNat_carry] at hr
  rw [← hr]
  exact ⟨honly, DifferenceFlags.of_subN hw a b bin _ hflags, hquiet⟩

/-- A sum without a carry (R171 to R173). -/
theorem sum_of_addN_noCarry {w : Nat} (hw : 0 < w) {s t : State} {Only : BitVec w → Prop} {a b : BitVec w}
    (h : WritesResult s t Only (addN a b false) (addN a b false).2.z) :
    Only (a + b) ∧ SumFlags s t a b false (decide (a + b = 0)) ∧ Quiet s t :=
  sum_of_addN hw true h _ (by simp)

/-- A difference without a borrow (R176 to R178, R181 to R183); it is 0 exactly when its operands are equal. -/
theorem difference_of_subN_noBorrow {w : Nat} (hw : 0 < w) {s t : State} {Only : BitVec w → Prop} {a b : BitVec w}
    (h : WritesResult s t Only (subN a b false) (subN a b false).2.z) :
    Only (a - b) ∧ DifferenceFlags s t a b false (decide (a = b)) ∧ Quiet s t := by
  have hz : decide (a = b) = decide (a - b = 0) := decide_eq_decide.2 sub_eq_zero.symm
  rw [hz]
  exact difference_of_subN hw true h _ (by simp)

/-- NEG is the difference from 0 (R184). -/
theorem negation_of_subN {w : Nat} (hw : 0 < w) {s t : State} {Only : BitVec w → Prop} {b : BitVec w}
    (h : WritesResult s t Only (subN 0 b false) (subN 0 b false).2.z) :
    Only (-b) ∧ DifferenceFlags s t 0 b false (decide (b = 0)) ∧ Quiet s t := by
  have hdiff := difference_of_subN_noBorrow hw h
  rw [BitVec.ofNat_eq_ofNat, BitVec.zero_sub] at hdiff
  rwa [decide_eq_decide.2 (eq_comm : b = 0 ↔ 0 = b)]

/-- Settles O35: six sums, two of each width. -/
theorem addition : Obligations.Addition := fun s =>
  ⟨fun _ rd => ⟨_, rfl, sum_of_addN_noCarry (by decide) (s.arithB_spec rd _)⟩,
    fun _ rd => ⟨_, rfl, sum_of_addN_noCarry (by decide) (s.arithB_spec rd _)⟩,
    fun _ rd => ⟨_, rfl, sum_of_addN_noCarry (by decide) (s.arithW_spec rd _)⟩,
    fun _ rd => ⟨_, rfl, sum_of_addN_noCarry (by decide) (s.arithW_spec rd _)⟩,
    fun _ erd => ⟨_, rfl, sum_of_addN_noCarry (by decide) (s.arithL_spec erd _)⟩,
    fun _ erd => ⟨_, rfl, sum_of_addN_noCarry (by decide) (s.arithL_spec erd _)⟩⟩

/-- Settles O36: five differences of two operands, and three from 0. -/
theorem subtractAndNegate : Obligations.SubtractAndNegate := fun s =>
  ⟨fun _ rd => ⟨_, rfl, difference_of_subN_noBorrow (by decide) (s.arithB_spec rd _)⟩,
    fun _ rd => ⟨_, rfl, difference_of_subN_noBorrow (by decide) (s.arithW_spec rd _)⟩,
    fun _ rd => ⟨_, rfl, difference_of_subN_noBorrow (by decide) (s.arithW_spec rd _)⟩,
    fun _ erd => ⟨_, rfl, difference_of_subN_noBorrow (by decide) (s.arithL_spec erd _)⟩,
    fun _ erd => ⟨_, rfl, difference_of_subN_noBorrow (by decide) (s.arithL_spec erd _)⟩,
    fun rd => ⟨_, rfl, negation_of_subN (by decide) (s.arithB_spec rd _)⟩,
    fun rd => ⟨_, rfl, negation_of_subN (by decide) (s.arithW_spec rd _)⟩,
    fun erd => ⟨_, rfl, negation_of_subN (by decide) (s.arithL_spec erd _)⟩⟩

/-- CMP writes the flags of the difference and no register, at every width. -/
theorem State.compare_spec {w : Nat} (hw : 0 < w) (s : State) (a b : BitVec w) :
    NoRegister s (s.setArith (subN a b false).2)
      ∧ DifferenceFlags s (s.setArith (subN a b false).2) a b false (decide (a = b))
      ∧ Quiet s (s.setArith (subN a b false).2) :=
  difference_of_subN_noBorrow (Only := fun _ => NoRegister s _) hw (s.setArith_spec _)

/-- Settles O37: six compares, two of each width. -/
theorem compare : Obligations.Compare := fun s =>
  ⟨fun _ _ => ⟨_, rfl, s.compare_spec (by decide) _ _⟩, fun _ _ => ⟨_, rfl, s.compare_spec (by decide) _ _⟩,
    fun _ _ => ⟨_, rfl, s.compare_spec (by decide) _ _⟩, fun _ _ => ⟨_, rfl, s.compare_spec (by decide) _ _⟩,
    fun _ _ => ⟨_, rfl, s.compare_spec (by decide) _ _⟩, fun _ _ => ⟨_, rfl, s.compare_spec (by decide) _ _⟩⟩

/-- Settles O38: two sums and two differences with C, their Z sticky. -/
theorem addAndSubtractWithCarry : Obligations.AddAndSubtractWithCarry := fun s =>
  ⟨fun _ rd => ⟨_, rfl, sum_of_addN (by decide) _ (s.arithStickyB_spec rd _)⟩,
    fun _ rd => ⟨_, rfl, sum_of_addN (by decide) _ (s.arithStickyB_spec rd _)⟩,
    fun _ rd => ⟨_, rfl, difference_of_subN (by decide) _ (s.arithStickyB_spec rd _)⟩,
    fun _ rd => ⟨_, rfl, difference_of_subN (by decide) _ (s.arithStickyB_spec rd _)⟩⟩

/-- Settles O39: six writes of a long register. -/
theorem addressArithmetic : Obligations.AddressArithmetic := fun s erd =>
  ⟨⟨_, rfl, s.setReg_spec erd _⟩, ⟨_, rfl, s.setReg_spec erd _⟩, ⟨_, rfl, s.setReg_spec erd _⟩,
    ⟨_, rfl, s.setReg_spec erd _⟩, ⟨_, rfl, s.setReg_spec erd _⟩, ⟨_, rfl, s.setReg_spec erd _⟩⟩

/-! ## Increments -/

/-- V of INC (R197, R198): the sign goes from plus to minus exactly when the sum with `k`, which is not negative, does
not fit. It is V of the sum. -/
theorem inc_overflow {w : Nat} (hw : 0 < w) (a : BitVec w) {k : BitVec w} (hk : k.msb = false) :
    (!a.msb && (a + k).msb) = decide ((a + k).toInt ≠ a.toInt + k.toInt) := by
  have hsum : (addN a k false).1 = a + k := by simp [addN_value]
  have hv : (addN a k false).2.v = (a.msb == k.msb && (addN a k false).1.msb != a.msb) := rfl
  have hoverflow := addN_overflow hw a k false
  rw [hv, hsum, hk] at hoverflow
  calc (!a.msb && (a + k).msb)
      = (a.msb == false && (a + k).msb != a.msb) := by cases a.msb <;> simp
    _ = decide (a.toInt + k.toInt + false.toNat ≠ (a + k).toInt) := hoverflow
    _ = decide ((a + k).toInt ≠ a.toInt + k.toInt) := by simp [eq_comm]

/-- V of DEC (R200, R201): the sign goes from minus to plus exactly when the difference with `k` does not fit. -/
theorem dec_overflow {w : Nat} (hw : 0 < w) (a : BitVec w) {k : BitVec w} (hk : k.msb = false) :
    (a.msb && !(a - k).msb) = decide ((a - k).toInt ≠ a.toInt - k.toInt) := by
  have hdiff : (subN a k false).1 = a - k := by simp [subN_value]
  have hv : (subN a k false).2.v = (a.msb != k.msb && (subN a k false).1.msb != a.msb) := rfl
  have hoverflow := subN_overflow hw a k false
  rw [hv, hdiff, hk] at hoverflow
  calc (a.msb && !(a - k).msb)
      = (a.msb != false && (a - k).msb != a.msb) := by cases a.msb <;> simp
    _ = decide (a.toInt - k.toInt - false.toNat ≠ (a - k).toInt) := hoverflow
    _ = decide ((a - k).toInt ≠ a.toInt - k.toInt) := by simp [eq_comm]

/-- V of INC.B (R196): 0x7F is the one byte whose successor does not fit. -/
theorem incB_overflow (a : Byte) : (a == 0x7F) = decide ((a + 1).toInt ≠ a.toInt + 1) := by
  revert a; decide

/-- V of DEC.B (R199): 0x80 is the one byte whose predecessor does not fit. -/
theorem decB_overflow (a : Byte) : (a == 0x80) = decide ((a - 1).toInt ≠ a.toInt - 1) := by
  revert a; decide

/-- The steps of INC and DEC, 1 and 2, are not negative at a width of 3 bits or more. -/
theorem msb_eq_false_of_one_or_two {w : Nat} (hw : 3 ≤ w) {k : BitVec w} {p q : Prop}
    (h : k = 1 ∧ p ∨ k = 2 ∧ q) : k.msb = false := by
  have hhalf : 2 ^ 2 ≤ 2 ^ (w - 1) := Nat.pow_le_pow_right (by decide) (by omega)
  rw [BitVec.msb_eq_decide, decide_eq_false_iff_not]
  have hsmall : k.toNat ≤ 2 := by
    rcases h with ⟨rfl, -⟩ | ⟨rfl, -⟩
    · exact (Nat.mod_le 1 _).trans (by decide)
    · exact Nat.mod_le 2 _
  omega

/-- Settles O40: ten increments, V of each being signed overflow. -/
theorem incrementAndDecrement : Obligations.IncrementAndDecrement := by
  refine fun s => ⟨fun rd => ⟨_, rfl, ?_⟩, fun rd => ⟨_, rfl, ?_⟩, fun k i rd hform => ?_, fun k i rd hform => ?_,
    fun k i erd hform => ?_, fun k i erd hform => ?_⟩
  · rw [← incB_overflow]; exact s.incB_spec rd _ _
  · rw [← decB_overflow]; exact s.incB_spec rd _ _
  · rw [← inc_overflow (by decide) _ (msb_eq_false_of_one_or_two (by decide) hform)]
    rcases hform with ⟨rfl, rfl⟩ | ⟨rfl, rfl⟩ <;> exact ⟨_, rfl, s.incW_spec rd _ _⟩
  · rw [← dec_overflow (by decide) _ (msb_eq_false_of_one_or_two (by decide) hform)]
    rcases hform with ⟨rfl, rfl⟩ | ⟨rfl, rfl⟩ <;> exact ⟨_, rfl, s.incW_spec rd _ _⟩
  · rw [← inc_overflow (by decide) _ (msb_eq_false_of_one_or_two (by decide) hform)]
    rcases hform with ⟨rfl, rfl⟩ | ⟨rfl, rfl⟩ <;> exact ⟨_, rfl, s.incL_spec erd _ _⟩
  · rw [← dec_overflow (by decide) _ (msb_eq_false_of_one_or_two (by decide) hform)]
    rcases hform with ⟨rfl, rfl⟩ | ⟨rfl, rfl⟩ <;> exact ⟨_, rfl, s.incL_spec erd _ _⟩

/-! ## Products and extensions -/

/-- N and Z of a value say that it is negative and that it is 0, as a number. -/
theorem signAndZero_eq_toInt {w : Nat} (x : BitVec w) :
    x.msb = decide (x.toInt < 0) ∧ decide (x = 0) = decide (x.toInt = 0) := by
  refine ⟨BitVec.msb_eq_toInt, decide_eq_decide.2 ?_⟩
  rw [← BitVec.toInt_inj, BitVec.ofNat_eq_ofNat, BitVec.toInt_zero]

/-- An operation that writes `mulSigned` of the low half of `x` and `b`, with N and Z, multiplies exactly (R194). -/
theorem product_of_mulSigned {w n : Nat} (hw : 0 < w) (hn : w ≤ n) {s t : State} {Only : BitVec (w + w) → Prop}
    {x : BitVec n} {b : BitVec w} {new : BitVec (w + w)} (hnew : new = mulSigned (x.setWidth w) b)
    (h : Only (mulSigned (x.setWidth w) b)
      ∧ FlagsAre s t (s.flag .h) (mulSigned (x.setWidth w) b).msb (decide (mulSigned (x.setWidth w) b = 0))
          (s.flag .v) (s.flag .c)
      ∧ SameWorld s t ∧ t.pc = s.pc) :
    ∀ p : Int, p = (x.extractLsb' 0 w).toInt * b.toInt →
      Only new ∧ new.toInt = p
        ∧ FlagsAre s t (s.flag .h) (decide (p < 0)) (decide (p = 0)) (s.flag .v) (s.flag .c) ∧ Quiet s t := by
  rintro _ rfl
  subst hnew
  obtain ⟨honly, hflags, hquiet⟩ := h
  have hvalue : (mulSigned (x.setWidth w) b).toInt = (x.extractLsb' 0 w).toInt * b.toInt := by
    rw [mulSigned_toInt hw, BitVec.setWidth_eq_extractLsb' hn]
  obtain ⟨hneg, hzero⟩ := signAndZero_eq_toInt (mulSigned (x.setWidth w) b)
  rw [hneg, hzero, hvalue] at hflags
  exact ⟨honly, hvalue, hflags, hquiet⟩

/-- Settles O43: two products written without flags, and two with N and Z. -/
theorem multiply : Obligations.Multiply := by
  refine fun s => ⟨fun rs rd => ⟨_, rfl, ?_⟩, fun rs erd => ⟨_, rfl, ?_⟩, fun rs rd => ⟨_, rfl, ?_⟩,
    fun rs erd => ⟨_, rfl, ?_⟩⟩
  · obtain ⟨honly, hframe⟩ := s.setR16_spec rd (mulUnsigned ((s.r16 rd).setWidth 8) (s.r8 rs))
    rw [honly.1]
    exact ⟨honly, mulUnsigned_toNat _ _, hframe⟩
  · obtain ⟨honly, hframe⟩ := s.setReg_spec erd (mulUnsigned ((s.reg erd).setWidth 16) (s.r16 rs))
    rw [honly.1]
    exact ⟨honly, mulUnsigned_toNat _ _, hframe⟩
  · have hspec := s.mulResultW_spec rd (mulSigned ((s.r16 rd).setWidth 8) (s.r8 rs))
    exact product_of_mulSigned (by decide) (by decide) hspec.1.1 hspec
  · have hspec := s.mulResultL_spec erd (mulSigned ((s.reg erd).setWidth 16) (s.r16 rs))
    exact product_of_mulSigned (by decide) (by decide) hspec.1.1 hspec

/-- Zero extension keeps the low part as an unsigned number (R202). -/
theorem toNat_zeroExtend_low {n k m : Nat} (hk : k ≤ m) (x : BitVec n) :
    ((x.setWidth k).setWidth m).toNat = x.toNat % 2 ^ k := by
  rw [BitVec.toNat_setWidth_of_le hk, BitVec.toNat_setWidth]

/-- Sign extension keeps the low part as a signed number (R203). -/
theorem toInt_signExtend_low {n k m : Nat} (hn : k ≤ n) (hm : k ≤ m) (x : BitVec n) :
    ((x.setWidth k).signExtend m).toInt = (x.extractLsb' 0 k).toInt := by
  rw [BitVec.toInt_signExtend_of_le hm, BitVec.setWidth_eq_extractLsb' hn]

/-- Settles O46: two zero extensions and two sign extensions of the low half. -/
theorem extend : Obligations.Extend := by
  refine fun s => ⟨fun rd => ⟨_, rfl, ?_⟩, fun erd => ⟨_, rfl, ?_⟩, fun rd => ⟨_, rfl, ?_⟩, fun erd => ⟨_, rfl, ?_⟩⟩
  · obtain ⟨honly, hframe⟩ := s.extendUW_spec rd (((s.r16 rd).setWidth 8).setWidth 16)
    rw [honly.1]
    exact ⟨honly, toNat_zeroExtend_low (by decide) _, hframe⟩
  · obtain ⟨honly, hframe⟩ := s.extendUL_spec erd (((s.reg erd).setWidth 16).setWidth 32)
    rw [honly.1]
    exact ⟨honly, toNat_zeroExtend_low (by decide) _, hframe⟩
  · obtain ⟨honly, hframe⟩ := s.moveW_spec rd (((s.r16 rd).setWidth 8).signExtend 16)
    rw [honly.1]
    exact ⟨honly, toInt_signExtend_low (by decide) (by decide) _, hframe⟩
  · obtain ⟨honly, hframe⟩ := s.moveL_spec erd (((s.reg erd).setWidth 16).signExtend 32)
    rw [honly.1]
    exact ⟨honly, toInt_signExtend_low (by decide) (by decide) _, hframe⟩

/-! ## Quotients -/

/-- What the law of a divide says of N, Z and the destination, `old` before and `new` after, whichever register it is
(R189). -/
structure DivideWrites {w : Nat} (s t : State) (d : DivideResult w) (old new : BitVec (w + w)) : Prop where
  flags : d.cls ≠ .overflow ∨ s.params.divCorner ≠ .anyValue → t.flag .n = d.n ∧ t.flag .z = d.z
  kept : d.cls = .zeroDivisor → DefaultAt s.params.divCorner d.input → new = old
  given : d.cls ≠ .fits → ∀ v, GivenAt s.params.divCorner d.input v → new = v.setWidth _
  value : d.cls = .fits ∨ d.cls = .overflow ∧ DefaultAt s.params.divCorner d.input → new = d.value

/-- The class of a divide (R189), `zero` saying that the divisor is 0 and `fit` that the quotient fits. -/
structure ClassIs (cls : DivideClass) (zero fit : Prop) : Prop where
  zeroDivisor : zero → cls = .zeroDivisor
  fits : ¬ zero → fit → cls = .fits
  overflow : ¬ zero → ¬ fit → cls = .overflow

/-- `large` being the test for a quotient that does not fit. -/
theorem classIs_ite {zero large fit : Prop} [Decidable zero] [Decidable large] (h : large ↔ ¬ fit) :
    ClassIs (if zero then .zeroDivisor else if large then .overflow else .fits) zero fit where
  zeroDivisor hz := if_pos hz
  fits hz hf := by rw [if_neg hz, if_neg fun ho => h.1 ho hf]
  overflow hz hf := by rw [if_neg hz, if_pos (h.2 hf)]

theorem divUnsigned_classIs {w top : Nat} (htop : 2 ^ w = top + 1) (n : BitVec (w + w)) (m : BitVec w) :
    ClassIs (divUnsigned n m).cls (m.toNat = 0) (n.toNat / m.toNat ≤ top) :=
  classIs_ite (by omega)

theorem divSigned_classIs {w : Nat} {top : Int} (htop : (2 ^ (w - 1) : Int) = top + 1) (rule : DivxsNRule)
    (n : BitVec (w + w)) (m : BitVec w) :
    ClassIs (divSigned rule n m).cls (m.toInt = 0)
      (-(top + 1) ≤ n.toInt.tdiv m.toInt ∧ n.toInt.tdiv m.toInt ≤ top) :=
  classIs_ite (by omega)

section
variable {w : Nat} {s t : State} {d : DivideResult w} {old new : BitVec (w + w)} {zero fit : Prop}

/-- N and Z are the rule's unless the quotient does not fit and any value may result. -/
theorem DivideWrites.flags_of_class (h : DivideWrites s t d old new) (hc : ClassIs d.cls zero fit)
    (hopen : zero ∨ fit ∨ s.params.divCorner ≠ .anyValue) : t.flag .n = d.n ∧ t.flag .z = d.z := by
  by_cases hz : zero
  · exact h.flags (.inl (by simp [hc.zeroDivisor hz]))
  · exact h.flags ((hopen.resolve_left hz).imp_left fun hf => by simp [hc.fits hz hf])

/-- In both corners a value that is passed is followed. -/
theorem DivideWrites.given_of_class (h : DivideWrites s t d old new) (hc : ClassIs d.cls zero fit)
    (hcorner : zero ∨ ¬ fit) (v : Long) (hv : GivenAt s.params.divCorner d.input v) : new = v.setWidth _ := by
  refine h.given ?_ v hv
  by_cases hz : zero
  · simp [hc.zeroDivisor hz]
  · simp [hc.overflow hz (hcorner.resolve_left hz)]

/-- Without a zero divisor the true remainder and quotient are written, in whole or by default truncated. -/
theorem DivideWrites.value_of_class (h : DivideWrites s t d old new) (hc : ClassIs d.cls zero fit) (hz : ¬ zero)
    (hopen : fit ∨ DefaultAt s.params.divCorner d.input) : new = d.value := by
  by_cases hf : fit
  · exact h.value (.inl (hc.fits hz hf))
  · exact h.value (.inr ⟨hc.overflow hz hf, hopen.resolve_left hf⟩)

end

/-- The law of a divide with a word destination, what it says of N, Z and the destination gathered. -/
theorem State.divideW_writes (s : State) (rd : Reg4) (d : DivideResult 8) :
    OnlyWord s (s.divideW rd d) rd ((s.divideW rd d).r16 rd) ∧ Quiet s (s.divideW rd d)
      ∧ FlagsAre s (s.divideW rd d) (s.flag .h) ((s.divideW rd d).flag .n) ((s.divideW rd d).flag .z)
          (s.flag .v) (s.flag .c)
      ∧ DivideWrites s (s.divideW rd d) d (s.r16 rd) ((s.divideW rd d).r16 rd) := by
  obtain ⟨honly, hworld, hpc, hflags, hnz, hkept, hgiven, hvalue⟩ := s.divideW_spec rd d
  exact ⟨honly, ⟨hworld, hpc⟩, hflags, hnz, hkept, hgiven, hvalue⟩

/-- The same with a long destination. -/
theorem State.divideL_writes (s : State) (erd : Reg3) (d : DivideResult 16) :
    OnlyLong s (s.divideL erd d) erd ((s.divideL erd d).reg erd) ∧ Quiet s (s.divideL erd d)
      ∧ FlagsAre s (s.divideL erd d) (s.flag .h) ((s.divideL erd d).flag .n) ((s.divideL erd d).flag .z)
          (s.flag .v) (s.flag .c)
      ∧ DivideWrites s (s.divideL erd d) d (s.reg erd) ((s.divideL erd d).reg erd) := by
  obtain ⟨honly, hworld, hpc, hflags, hnz, hkept, hgiven, hvalue⟩ := s.divideL_spec erd d
  exact ⟨honly, ⟨hworld, hpc⟩, hflags, hnz, hkept, hgiven, hvalue⟩

/-- `div_corner` sees operands of the `.W` form as they are. -/
theorem divideInput_long (signed : Bool) (x : Long) (y : Word) :
    (⟨signed, true, x, y⟩ : DivideInput) = divideInput (w := 16) signed x y := by
  simp [divideInput]

section
variable {w : Nat} {s t : State} {x : BitVec (w + w)} {y : BitVec w} {new : BitVec (w + w)} {Only Rest Flags : Prop}
  {key : DivideInput} {read : Long → BitVec (w + w)}

/-- DIVXU at every width (R190, R191). `top` is the largest quotient that fits, `key` what `div_corner` is asked and
`read` how the destination takes its answer. -/
theorem quotient_of_divUnsigned {top : Nat} (htop : 2 ^ w = top + 1) (hkey : key = divideInput false x y)
    (hread : ∀ v, v.setWidth (w + w) = read v)
    (h : Only ∧ Rest ∧ Flags ∧ DivideWrites s t (divUnsigned x y) x new) :
    ∀ n m : Nat, n = x.toNat → m = y.toNat → ∀ k, k = key →
      Only ∧ Rest ∧ Flags
      ∧ (n / m ≤ top ∨ s.params.divCorner ≠ .anyValue → t.flag .n = y.msb ∧ (t.flag .z ↔ m = 0))
      ∧ (m = 0 → DefaultAt s.params.divCorner k → new = x)
      ∧ (m = 0 ∨ top < n / m → ∀ v, GivenAt s.params.divCorner k v → new = read v)
      ∧ (m ≠ 0 → n / m ≤ top ∨ DefaultAt s.params.divCorner k →
          new = BitVec.ofNat w (n % m) ++ BitVec.ofNat w (n / m)) := by
  rintro _ _ rfl rfl _ rfl
  subst hkey
  obtain ⟨honly, hrest, hflags, hwrites⟩ := h
  have hclass := divUnsigned_classIs htop x y
  refine ⟨honly, hrest, hflags, fun hopen => ?_, fun hz => hwrites.kept (hclass.zeroDivisor hz),
    fun hcorner v hv => ?_, hwrites.value_of_class hclass⟩
  · obtain ⟨hn, hz⟩ := hwrites.flags_of_class hclass (.inr hopen)
    exact ⟨hn, by rw [hz]; exact decide_eq_true_iff⟩
  · rw [← hread]
    exact hwrites.given_of_class hclass (hcorner.imp_right Nat.not_le_of_lt) v hv

/-- DIVXS at every width (R192, R193), with both rules for N; a quotient fits from `bot` to `top`. -/
theorem quotient_of_divSigned {top bot : Int} (htop : (2 ^ (w - 1) : Int) = top + 1) (hbot : bot = -(top + 1))
    (hkey : key = divideInput true x y) (hread : ∀ v, v.setWidth (w + w) = read v)
    (h : Only ∧ Rest ∧ Flags ∧ DivideWrites s t (divSigned s.params.divxsN x y) x new) :
    ∀ n m : Int, n = x.toInt → m = y.toInt → ∀ k, k = key →
      Only ∧ Rest ∧ Flags
      ∧ (m = 0 ∨ (bot ≤ n.tdiv m ∧ n.tdiv m ≤ top) ∨ s.params.divCorner ≠ .anyValue →
          (t.flag .z ↔ m = 0)
          ∧ (s.params.divxsN = .quotientSign → (t.flag .n ↔ m ≠ 0 ∧ n.tdiv m < 0))
          ∧ (s.params.divxsN = .operandSignXor → t.flag .n = (x.msb ^^ y.msb)))
      ∧ (m = 0 → DefaultAt s.params.divCorner k → new = x)
      ∧ (m = 0 ∨ n.tdiv m < bot ∨ top < n.tdiv m → ∀ v, GivenAt s.params.divCorner k v → new = read v)
      ∧ (m ≠ 0 → (bot ≤ n.tdiv m ∧ n.tdiv m ≤ top) ∨ DefaultAt s.params.divCorner k →
          new = BitVec.ofInt w (n.tmod m) ++ BitVec.ofInt w (n.tdiv m)) := by
  rintro _ _ rfl rfl _ rfl
  subst hkey hbot
  obtain ⟨honly, hrest, hflags, hwrites⟩ := h
  have hclass := divSigned_classIs htop s.params.divxsN x y
  refine ⟨honly, hrest, hflags, fun hopen => ?_, fun hz => hwrites.kept (hclass.zeroDivisor hz),
    fun hcorner v hv => ?_, hwrites.value_of_class hclass⟩
  · obtain ⟨hn, hz⟩ := hwrites.flags_of_class hclass hopen
    refine ⟨by rw [hz]; exact decide_eq_true_iff, fun hrule => ?_, fun hrule => ?_⟩
    · simp [hn, divSigned, divxsN, hrule]
    · simp [hn, divSigned, divxsN, hrule]
  · rw [← hread]
    exact hwrites.given_of_class hclass (hcorner.imp_right (by omega)) v hv

end

/-- Every function on a finite type can be passed as a table (R6). -/
theorem exists_table_of_finite {κ ν : Type} [DecidableEq κ] [Finite κ] (f : κ → ν) :
    ∃ table : List (κ × ν), ∀ k, table.lookup k = some (f k) := by
  have := Fintype.ofFinite κ
  exact exists_table Finset.univ.toList (fun _ => Finset.mem_toList.2 (Finset.mem_univ _)) f

theorem finite_divideInput : Finite DivideInput :=
  Finite.of_injective (fun k => (k.signed, k.long, k.dividend, k.divisor)) fun ⟨_, _, _, _⟩ ⟨_, _, _, _⟩ h => by
    simpa using h

theorem finite_adjustInput : Finite AdjustInput :=
  Finite.of_injective (fun k => (k.c, k.h, k.a)) fun ⟨_, _, _⟩ ⟨_, _, _⟩ h => by simpa using h

/-- Settles O44: one unsigned divide of each width. -/
theorem divideUnsigned : Obligations.DivideUnsigned := by
  have := finite_divideInput
  refine ⟨exists_table_of_finite, fun s => ⟨fun rs rd => ⟨_, rfl, ?_⟩, fun rs erd => ⟨_, rfl, ?_⟩⟩⟩
  · exact quotient_of_divUnsigned (w := 8) rfl rfl (fun _ => rfl) (s.divideW_writes rd _)
  · exact quotient_of_divUnsigned (w := 16) rfl (divideInput_long ..) (fun v => v.setWidth_eq) (s.divideL_writes erd _)

/-- Settles O45: one signed divide of each width. -/
theorem divideSigned : Obligations.DivideSigned := by
  refine fun s => ⟨fun rs rd => ⟨_, rfl, ?_⟩, fun rs erd => ⟨_, rfl, ?_⟩⟩
  · exact quotient_of_divSigned (w := 8) rfl rfl rfl (fun _ => rfl) (s.divideW_writes rd _)
  · exact quotient_of_divSigned (w := 16) rfl rfl (divideInput_long ..) (fun v => v.setWidth_eq)
      (s.divideL_writes erd _)

/-! ## Decimal adjustment -/

/-- The default that R185 states digit by digit, in terms of the byte: the high digit overflows from 0x9A on. -/
theorem daaDefault_eq (c h : Bool) (a : Byte) :
    ((daaDefault ⟨c, h, a⟩).cAfter ↔ c ∨ 0x99 < a.toNat)
      ∧ (daaDefault ⟨c, h, a⟩).addend
          = (if h ∨ 9 < a.toNat % 16 then 0x06 else 0) + (if c ∨ 0x99 < a.toNat then 0x60 else 0) := by
  have hlo : (a.extractLsb' 0 4).toNat = a.toNat % 16 := by simp
  have hhi : (a.extractLsb' 4 4).toNat = a.toNat / 16 := by
    have := a.isLt
    rw [BitVec.extractLsb'_toNat, Nat.shiftRight_eq_div_pow]
    omega
  have hcarry : (c || decide (9 < a.toNat / 16) || (decide (a.toNat / 16 = 9) && decide (9 < a.toNat % 16))) = true
      ↔ c ∨ 0x99 < a.toNat := by
    simp only [Bool.or_eq_true, Bool.and_eq_true, decide_eq_true_eq, or_assoc]
    exact or_congr_right (by omega)
  have hlow : (h || decide (9 < a.toNat % 16)) = true ↔ h ∨ 9 < a.toNat % 16 := by
    simp only [Bool.or_eq_true, decide_eq_true_eq]
  simp only [daaDefault, hlo, hhi, hcarry, hlow]
  by_cases hc : c = true ∨ 0x99 < a.toNat
  · simp [hc]
  · obtain ⟨hclear, hsmall⟩ := not_or.1 hc
    simp [hclear, hsmall]

/-- A parameter that does not contradict the table settles a listed byte as the table does, whichever its setting. -/
theorem State.decimalAdjust_of_table (s : State) (rd : Reg4) {rule : OpenResult AdjustInput Adjustment}
    {dflt : AdjustInput → Adjustment} {table : List AdjustRow} {x : Adjustment}
    (hdflt : ∀ i x, tableAdjust table i = some x → dflt i = x) (hrule : FollowsTable rule table)
    (hx : tableAdjust table (s.adjustInput rd) = some x) :
    (s.decimalAdjust rd rule dflt table).r8 rd = s.r8 rd + x.addend
      ∧ (s.decimalAdjust rd rule dflt table).flag .c = x.cAfter := by
  obtain ⟨-, -, -, -, -, hsettled, hopen⟩ := s.decimalAdjust_spec rd rule dflt table _ rfl
  have hxdflt := (hdflt _ x hx).symm
  cases hsetting : rule with
  | specDefault => exact hsetting ▸ hsettled x (.inl ⟨.inl hsetting, hxdflt⟩)
  | anyValue => exact hsetting ▸ hopen hsetting x hx
  | given listed =>
    rw [← hsetting]
    cases hlookup : listed.lookup (s.adjustInput rd) with
    | none => exact hsettled x (.inl ⟨.inr ⟨listed, hsetting, hlookup⟩, hxdflt⟩)
    | some v =>
      have hgiven : GivenAt rule (s.adjustInput rd) v := ⟨listed, hsetting, hlookup⟩
      exact hsettled x (.inr (hrule _ x v hx hgiven ▸ hgiven))

/-- All that DAA and DAS change, under every setting of their parameter, for a default that follows the table. -/
theorem State.decimalAdjust_law (s : State) (rd : Reg4) (rule : OpenResult AdjustInput Adjustment)
    {dflt : AdjustInput → Adjustment} {table : List AdjustRow}
    (hdflt : ∀ i x, tableAdjust table i = some x → dflt i = x) (t : State)
    (ht : s.decimalAdjust rd rule dflt table = t) :
    OnlyByte s t rd (t.r8 rd)
      ∧ FlagsAre s t (t.flag .h) (t.r8 rd).msb (decide (t.r8 rd = 0)) (t.flag .v) (t.flag .c) ∧ Quiet s t
      ∧ (rule ≠ .anyValue → t.flag .h = s.flag .h ∧ t.flag .v = s.flag .v)
      ∧ (∀ x, GivenAt rule (s.adjustInput rd) x → t.r8 rd = s.r8 rd + x.addend ∧ t.flag .c = x.cAfter)
      ∧ (∀ x, FollowsTable rule table → tableAdjust table (s.adjustInput rd) = some x →
          t.r8 rd = s.r8 rd + x.addend ∧ t.flag .c = x.cAfter)
      ∧ (DefaultAt rule (s.adjustInput rd) →
          t.r8 rd = s.r8 rd + (dflt (s.adjustInput rd)).addend ∧ t.flag .c = (dflt (s.adjustInput rd)).cAfter) := by
  obtain ⟨honly, hflags, hworld, hpc, hkept, hsettled, -⟩ := s.decimalAdjust_spec rd rule dflt table t ht
  refine ⟨honly, hflags, ⟨hworld, hpc⟩, hkept, fun x hgiven => hsettled x (.inr hgiven), fun x hrule hx => ?_,
    fun hdefault => hsettled _ (.inl ⟨hdefault, rfl⟩)⟩
  rw [← ht]
  exact s.decimalAdjust_of_table rd hdflt hrule hx

theorem daaDefault_follows_table (i : AdjustInput) (x : Adjustment) (h : tableAdjust daaTable i = some x) :
    daaDefault i = x := (default_follows_table i).1 x h

theorem dasDefault_follows_table (i : AdjustInput) (x : Adjustment) (h : tableAdjust dasTable i = some x) :
    dasDefault i = x := (default_follows_table i).2 x h

/-- Settles O41: DAA and DAS are one operation with two tables and two defaults. -/
theorem decimalAdjust : Obligations.DecimalAdjust := by
  have := finite_adjustInput
  refine ⟨exists_table_of_finite, fun s rd => ⟨⟨_, rfl, ?_⟩, ⟨_, rfl, ?_⟩⟩⟩
  · obtain ⟨honly, hflags, hquiet, hkept, hgiven, htable, hdefault⟩ :=
      s.decimalAdjust_law rd s.params.daaAdjust daaDefault_follows_table _ rfl
    refine ⟨honly, hflags, hquiet, hkept, hgiven, htable, fun hd => ?_⟩
    obtain ⟨hbyte, hcarry⟩ := hdefault hd
    obtain ⟨hafter, haddend⟩ := daaDefault_eq (s.flag .c) (s.flag .h) (s.r8 rd)
    rw [hbyte, hcarry, State.adjustInput, haddend, BitVec.add_assoc]
    exact ⟨hafter, rfl⟩
  · obtain ⟨honly, hflags, hquiet, hkept, hgiven, htable, hdefault⟩ :=
      s.decimalAdjust_law rd s.params.dasAdjust dasDefault_follows_table _ rfl
    refine ⟨honly, hflags, hquiet, hkept, hgiven, htable, fun hd => ?_⟩
    obtain ⟨hbyte, hcarry⟩ := hdefault hd
    rw [hbyte, hcarry, BitVec.add_assoc]
    exact ⟨rfl, rfl⟩

/-! ## Decimal sums and differences

A sum of two decimal bytes is made of a sum of low digits, with the carry in, and a sum of high digits. H and C say
which of them passed 15, so the table's answer depends on the two digit sums alone; a difference likewise. -/

/-- The table lists `i`, and what it says leaves a decimal byte that stands for `value`, and C is `carry`. -/
def tableGives (table : List AdjustRow) (i : AdjustInput) (value : Nat) (carry : Bool) : Bool :=
  (tableAdjust table i).any fun x =>
    isBcd (i.a + x.addend) && decide (bcdValue (i.a + x.addend) = value) && decide (x.cAfter = carry)

theorem tableGives_iff {table : List AdjustRow} {i : AdjustInput} {value : Nat} {carry : Bool} :
    tableGives table i value carry = true ↔ ∃ x, tableAdjust table i = some x
      ∧ isBcd (i.a + x.addend) = true ∧ bcdValue (i.a + x.addend) = value ∧ x.cAfter = carry := by
  simp [tableGives, Option.any_eq_true, and_assoc]

/-- DAA on every pair of a low digit sum `lo` and a high digit sum `hi` (R185). -/
theorem daaTable_digitSums : ∀ hi < 19, ∀ lo < 20,
    tableGives daaTable ⟨decide (256 ≤ 16 * hi + lo), decide (16 ≤ lo), BitVec.ofNat 8 (16 * hi + lo)⟩
      ((10 * hi + lo) % 100) (decide (100 ≤ 10 * hi + lo)) = true := by decide

/-- DAS on every pair of a low digit difference `lo - 10` and a high digit difference `hi - 9` (R186). -/
theorem dasTable_digitDifferences : ∀ hi < 19, ∀ lo < 20,
    tableGives dasTable ⟨decide (16 * hi + lo < 154), decide (lo < 10), BitVec.ofInt 8 ((16 * hi + lo : Nat) - 154)⟩
      ((10 * hi + lo) % 100) (decide (10 * hi + lo < 100)) = true := by decide

theorem isBcd_iff (b : Byte) : isBcd b = true ↔ b.toNat / 16 ≤ 9 ∧ b.toNat % 16 ≤ 9 := by
  simp [isBcd]

/-- The table of DAA turns the binary sum of two decimal bytes into their decimal sum. -/
theorem daaTable_addN {a b : Byte} (c : Bool) (ha : isBcd a = true) (hb : isBcd b = true) :
    tableGives daaTable ⟨(addN a b c).2.c, (addN a b c).2.h, (addN a b c).1⟩
      ((bcdValue a + bcdValue b + c.toNat) % 100) (decide (100 ≤ bcdValue a + bcdValue b + c.toNat)) = true := by
  obtain ⟨hahi, halo⟩ := (isBcd_iff a).1 ha
  obtain ⟨hbhi, hblo⟩ := (isBcd_iff b).1 hb
  have hc := c.toNat_le
  have hdigits := daaTable_digitSums (a.toNat / 16 + b.toNat / 16) (by omega)
    (a.toNat % 16 + b.toNat % 16 + c.toNat) (by omega)
  have hsum : 16 * (a.toNat / 16 + b.toNat / 16) + (a.toNat % 16 + b.toNat % 16 + c.toNat)
      = a.toNat + b.toNat + c.toNat := by omega
  have hvalue : 10 * (a.toNat / 16 + b.toNat / 16) + (a.toNat % 16 + b.toNat % 16 + c.toNat)
      = bcdValue a + bcdValue b + c.toNat := by unfold bcdValue; omega
  rwa [hsum, hvalue] at hdigits

/-- The table of DAS turns the binary difference of two decimal bytes into their decimal difference. -/
theorem dasTable_subN {a b : Byte} (c : Bool) (ha : isBcd a = true) (hb : isBcd b = true) :
    tableGives dasTable ⟨(subN a b c).2.c, (subN a b c).2.h, (subN a b c).1⟩
      ((100 + bcdValue a - bcdValue b - c.toNat) % 100) (decide (bcdValue a < bcdValue b + c.toNat)) = true := by
  obtain ⟨hahi, halo⟩ := (isBcd_iff a).1 ha
  obtain ⟨hbhi, hblo⟩ := (isBcd_iff b).1 hb
  have hc := c.toNat_le
  obtain ⟨hi, hhi⟩ : ∃ hi, hi = 9 + a.toNat / 16 - b.toNat / 16 := ⟨_, rfl⟩
  obtain ⟨lo, hlo⟩ : ∃ lo, lo = 10 + a.toNat % 16 - b.toNat % 16 - c.toNat := ⟨_, rfl⟩
  have hdigits := dasTable_digitDifferences hi (by omega) lo (by omega)
  have hborrow : 16 * hi + lo < 154 ↔ a.toNat < b.toNat + c.toNat := by omega
  have hhalf : lo < 10 ↔ a.toNat % 2 ^ (8 - 4) < b.toNat % 2 ^ (8 - 4) + c.toNat := by omega
  have hdiff : ((16 * hi + lo : Nat) - 154 : Int) = a.toNat - b.toNat - c.toNat := by omega
  have hvalue : 10 * hi + lo = 100 + bcdValue a - bcdValue b - c.toNat := by unfold bcdValue; omega
  have hdecimal : 10 * hi + lo < 100 ↔ bcdValue a < bcdValue b + c.toNat := by unfold bcdValue; omega
  rw [decide_eq_decide.2 hborrow, decide_eq_decide.2 hhalf, decide_eq_decide.2 hdecimal, hdiff, hvalue] at hdigits
  exact hdigits

/-- After an operation that wrote the byte and the flags `i`, an adjustment that the table settles leaves the decimal
result. -/
theorem State.decimalAdjust_gives {t : State} {rd : Reg4} {rule : OpenResult AdjustInput Adjustment}
    {dflt : AdjustInput → Adjustment} {table : List AdjustRow} {i : AdjustInput} {value : Nat} {carry : Prop}
    [Decidable carry] (hdflt : ∀ i x, tableAdjust table i = some x → dflt i = x) (hrule : FollowsTable rule table)
    (hi : t.adjustInput rd = i) (hgives : tableGives table i value (decide carry) = true) :
    isBcd ((t.decimalAdjust rd rule dflt table).r8 rd) = true
      ∧ bcdValue ((t.decimalAdjust rd rule dflt table).r8 rd) = value
      ∧ ((t.decimalAdjust rd rule dflt table).flag .c ↔ carry) := by
  subst hi
  obtain ⟨x, hx, hbcd, hvalue, hcarry⟩ := tableGives_iff.1 hgives
  obtain ⟨hbyte, hflag⟩ := t.decimalAdjust_of_table rd hdflt hrule hx
  rw [hbyte, hflag, hcarry]
  exact ⟨hbcd, hvalue, decide_eq_true_iff⟩

/-- What an ADDX or SUBX leaves for the DAA or DAS after it. -/
theorem State.adjustInput_arithStickyB (s : State) (rd : Reg4) (x : Byte × ArithFlags) :
    (s.arithStickyB rd x).adjustInput rd = ⟨x.2.c, x.2.h, x.1⟩ := by
  obtain ⟨honly, hflags, -⟩ := s.arithStickyB_spec rd x
  rw [State.adjustInput, honly.1, hflags.h, hflags.c]

/-- Settles O42: the binary sum or difference is in the table, and the table corrects it. -/
theorem decimalSums : Obligations.DecimalSums := by
  refine fun s rs rd hrd hrs => ⟨fun hrule => ⟨_, rfl, _, rfl, ?_⟩, fun hrule => ⟨_, rfl, _, rfl, ?_⟩⟩
  · exact State.decimalAdjust_gives daaDefault_follows_table hrule (s.adjustInput_arithStickyB rd _)
      (daaTable_addN (s.flag .c) hrd hrs)
  · exact State.decimalAdjust_gives dasDefault_follows_table hrule (s.adjustInput_arithStickyB rd _)
      (dasTable_subN (s.flag .c) hrd hrs)

end Sys2Proof.Machine
end

section
/-! SUPPORT. The claims about logic, shifts and rotates (42_logic_shift.md): a logical result is written as a move's is,
and each shift or rotate is said by the library's operations, its V and C read off the old value. -/

namespace Sys2Proof.Machine

/-! ## A bit that enters at one end -/

theorem getElem_lowBit {w : Nat} (x : Bool) {i : Nat} (hi : i < w) : (lowBit w x)[i] = (x && decide (i = 0)) := by
  cases x <;> simp [lowBit]

/-- A shift to the left with `x` entering bit 0. -/
theorem getElem_shiftLeft_or_lowBit {w : Nat} (a : BitVec w) (x : Bool) {i : Nat} (hi : i < w) :
    (a <<< 1 ||| lowBit w x)[i] = if i = 0 then x else a[i - 1] := by
  rw [BitVec.getElem_or, BitVec.getElem_shiftLeft, getElem_lowBit]
  split <;> simp [*]

/-- A shift to the right with `x` entering the top bit. -/
theorem getElem_shiftRight_or_topBit {w : Nat} (a : BitVec w) (x : Bool) {i : Nat} (hi : i < w) :
    (a >>> 1 ||| topBit w x)[i] = if h : 1 + i < w then a[1 + i] else x := by
  rw [BitVec.getElem_or, BitVec.getElem_ushiftRight, topBit, BitVec.getElem_shiftLeft, getElem_lowBit]
  split
  · have hinner : i < w - 1 := by omega
    simp [*]
  · have htop : i = w - 1 := by omega
    simp [htop, BitVec.getLsbD_of_ge, show w ≤ 1 + (w - 1) by omega]

/-! ## The shifts and rotates, as the library has them

Value, V and C of each (R221 to R228), by bit numbers; SHLR is so by definition. -/

theorem shal_eq {w : Nat} (a : BitVec w) :
    shal a = ⟨a <<< 1, a.getLsbD (w - 1) != a.getLsbD (w - 2), a.getLsbD (w - 1)⟩ := by
  rw [shal, BitVec.msb_eq_getLsbD_last]

theorem shar_eq {w : Nat} (a : BitVec w) : shar a = ⟨a.sshiftRight 1, false, a.getLsbD 0⟩ := by
  have hr : a >>> 1 ||| topBit w a.msb = a.sshiftRight 1 := by
    ext i hi
    rw [getElem_shiftRight_or_topBit, BitVec.getElem_sshiftRight]
  rw [shar, hr]

theorem shll_eq {w : Nat} (a : BitVec w) : shll a = ⟨a <<< 1, false, a.getLsbD (w - 1)⟩ := by
  rw [shll, BitVec.msb_eq_getLsbD_last]

theorem rotl_eq {w : Nat} (hw : 1 < w) (a : BitVec w) :
    rotl a = ⟨a.rotateLeft 1, false, a.getLsbD (w - 1)⟩ := by
  have hr : a <<< 1 ||| lowBit w (a.getLsbD (w - 1)) = a.rotateLeft 1 := by
    ext i hi
    rw [getElem_shiftLeft_or_lowBit, BitVec.getElem_rotateLeft]
    simp only [Nat.mod_eq_of_lt hw, Nat.lt_one_iff, BitVec.getLsbD_eq_getElem (show w - 1 < w by omega)]
    split <;> simp [*]
  rw [rotl, BitVec.msb_eq_getLsbD_last, hr]

theorem rotr_eq {w : Nat} (hw : 1 < w) (a : BitVec w) : rotr a = ⟨a.rotateRight 1, false, a.getLsbD 0⟩ := by
  have hr : a >>> 1 ||| topBit w (a.getLsbD 0) = a.rotateRight 1 := by
    ext i hi
    rw [getElem_shiftRight_or_topBit, BitVec.getElem_rotateRight]
    simp only [Nat.mod_eq_of_lt hw, Nat.lt_sub_iff_add_lt', ← BitVec.getLsbD_eq_getElem]
    split
    · rfl
    · rw [show i - (w - 1) = 0 by omega]
  rw [rotr, hr]

theorem rotxl_eq {w : Nat} (c : Bool) (a : BitVec (w + 1)) :
    rotxl c a = ⟨(a.extractLsb' 0 w).concat c, false, a.getLsbD w⟩ := by
  have hr : a <<< 1 ||| lowBit (w + 1) c = (a.extractLsb' 0 w).concat c := by
    ext i hi
    rw [getElem_shiftLeft_or_lowBit, BitVec.getElem_concat]
    simp [BitVec.getLsbD_eq_getElem (show i - 1 < w + 1 by omega)]
  rw [rotxl, hr, BitVec.msb_eq_getLsbD_last, Nat.add_sub_cancel]

theorem rotxr_eq {w : Nat} (c : Bool) (a : BitVec (w + 1)) :
    rotxr c a = ⟨(a.extractLsb' 1 w).cons c, false, a.getLsbD 0⟩ := by
  have hr : a >>> 1 ||| topBit (w + 1) c = (a.extractLsb' 1 w).cons c := by
    ext i hi
    rw [getElem_shiftRight_or_topBit, BitVec.getElem_cons]
    by_cases hlast : i = w
    · simp [hlast, Nat.add_comm]
    · have hinner : 1 + i < w + 1 := by omega
      simp [hlast, hinner, BitVec.getLsbD_eq_getElem]
  rw [rotxr, hr]

/-! ## The two claims -/

/-- Settles O47: the seven forms of a width are one register result. -/
theorem logic : Obligations.Logic := by
  refine ⟨fun s i rd r hform => ?_, fun s i rd r hform => ?_, fun s i erd r hform => ?_⟩
  · have hexec : exec i s = .next (s.moveB rd r) := by
      rcases hform with ⟨_, rfl, rfl⟩ | ⟨_, rfl, rfl⟩ | ⟨_, rfl, rfl⟩ | ⟨_, rfl, rfl⟩ | ⟨_, rfl, rfl⟩ | ⟨_, rfl, rfl⟩
        | ⟨rfl, rfl⟩ <;> rfl
    exact ⟨_, hexec, s.moveB_spec rd r⟩
  · have hexec : exec i s = .next (s.moveW rd r) := by
      rcases hform with ⟨_, rfl, rfl⟩ | ⟨_, rfl, rfl⟩ | ⟨_, rfl, rfl⟩ | ⟨_, rfl, rfl⟩ | ⟨_, rfl, rfl⟩ | ⟨_, rfl, rfl⟩
        | ⟨rfl, rfl⟩ <;> rfl
    exact ⟨_, hexec, s.moveW_spec rd r⟩
  · have hexec : exec i s = .next (s.moveL erd r) := by
      rcases hform with ⟨_, rfl, rfl⟩ | ⟨_, rfl, rfl⟩ | ⟨_, rfl, rfl⟩ | ⟨_, rfl, rfl⟩ | ⟨_, rfl, rfl⟩ | ⟨_, rfl, rfl⟩
        | ⟨rfl, rfl⟩ <;> rfl
    exact ⟨_, hexec, s.moveL_spec erd r⟩

/-- Settles O48: the eight forms of a width are one shift result, whose parts are the library's. At a given
width the sign is the bit of that number by definition, and a value joined to a bit is their concatenation. -/
theorem shiftsRotates : Obligations.ShiftsRotates := by
  refine ⟨fun s rd i r v c hform => ?_, fun s rd i r v c hform => ?_, fun s erd i r v c hform => ?_⟩
  · suffices h : ∃ x : ShiftResult 8, exec i s = .next (s.shiftB rd x) ∧ x = ⟨r, v, c⟩ by
      obtain ⟨_, hexec, rfl⟩ := h
      exact ⟨_, hexec, s.shiftB_spec rd _⟩
    rcases hform with h | h | h | h | h | h | h | h <;> obtain ⟨rfl, rfl, rfl, rfl⟩ := h
    exacts [⟨_, rfl, shal_eq _⟩, ⟨_, rfl, shar_eq _⟩, ⟨_, rfl, shll_eq _⟩, ⟨_, rfl, rfl⟩,
      ⟨_, rfl, rotl_eq (by decide) _⟩, ⟨_, rfl, rotr_eq (by decide) _⟩, ⟨_, rfl, rotxl_eq _ _⟩, ⟨_, rfl, rotxr_eq _ _⟩]
  · suffices h : ∃ x : ShiftResult 16, exec i s = .next (s.shiftW rd x) ∧ x = ⟨r, v, c⟩ by
      obtain ⟨_, hexec, rfl⟩ := h
      exact ⟨_, hexec, s.shiftW_spec rd _⟩
    rcases hform with h | h | h | h | h | h | h | h <;> obtain ⟨rfl, rfl, rfl, rfl⟩ := h
    exacts [⟨_, rfl, shal_eq _⟩, ⟨_, rfl, shar_eq _⟩, ⟨_, rfl, shll_eq _⟩, ⟨_, rfl, rfl⟩,
      ⟨_, rfl, rotl_eq (by decide) _⟩, ⟨_, rfl, rotr_eq (by decide) _⟩, ⟨_, rfl, rotxl_eq _ _⟩, ⟨_, rfl, rotxr_eq _ _⟩]
  · suffices h : ∃ x : ShiftResult 32, exec i s = .next (s.shiftL erd x) ∧ x = ⟨r, v, c⟩ by
      obtain ⟨_, hexec, rfl⟩ := h
      exact ⟨_, hexec, s.shiftL_spec erd _⟩
    rcases hform with h | h | h | h | h | h | h | h <;> obtain ⟨rfl, rfl, rfl, rfl⟩ := h
    exacts [⟨_, rfl, shal_eq _⟩, ⟨_, rfl, shar_eq _⟩, ⟨_, rfl, shll_eq _⟩, ⟨_, rfl, rfl⟩,
      ⟨_, rfl, rotl_eq (by decide) _⟩, ⟨_, rfl, rotr_eq (by decide) _⟩, ⟨_, rfl, rotxl_eq _ _⟩, ⟨_, rfl, rotxr_eq _ _⟩]

end Sys2Proof.Machine
end

section
/-! SUPPORT. The claims about bit manipulation (43_bit_manipulation.md): each instruction is one of four shared operations,
which replace a bit, or take a function of a bit into Z or C, in a register or in memory; a form's own part is its operand,
its bit number and its function. -/

namespace Sys2Proof.Machine

/-! ## Bit numbers -/

/-- The low three bits of a register as a remainder (R241). -/
theorem State.bitNumber_eq (s : State) (rn : Reg4) : s.bitNumber rn = (s.r8 rn).toNat % 8 := by
  simp [State.bitNumber]

theorem State.bitNumber_lt (s : State) (rn : Reg4) : s.bitNumber rn < 8 := BitVec.isLt _

/-! ## The byte with a bit replaced -/

/-- What `modifyBitR` leaves of the register, bit by bit (R242 to R244, R254, R255). -/
theorem State.modifyBitR_bits (s : State) (rd : Reg4) {n : Nat} (hn : n < 8) (f : Bool → Bool) :
    OnlyByte s (s.modifyBitR rd n f) rd ((s.modifyBitR rd n f).r8 rd)
      ∧ (∀ k < 8, ((s.modifyBitR rd n f).r8 rd).getLsbD k
          = if k = n then f ((s.r8 rd).getLsbD n) else (s.r8 rd).getLsbD k)
      ∧ SameFlags s (s.modifyBitR rd n f) ∧ Quiet s (s.modifyBitR rd n f) := by
  obtain ⟨honly, hflags, hquiet⟩ := s.modifyBitR_spec rd n f
  obtain ⟨hbyte, hothers⟩ := honly
  refine ⟨⟨rfl, hothers⟩, fun k _ => ?_, hflags, hquiet⟩
  rw [hbyte, getLsbD_setBit _ _ _ _ hn]

/-- The same in memory: the byte read, and the byte stored in the state that the read leaves. -/
theorem State.modifyBit_bits (s : State) (ea : Word) {n : Nat} (hn : n < 8) (f : Bool → Bool) :
    NoRegister s (s.modifyBit ea n f) ∧ SameFlags s (s.modifyBit ea n f)
      ∧ ∃ b : Byte, (∀ k < 8, b.getLsbD k
          = if k = n then f ((s.read8 ea).1.getLsbD n) else (s.read8 ea).1.getLsbD k)
        ∧ QuietStore (s.read8 ea).2 (s.modifyBit ea n f) [(ea, b)] := by
  obtain ⟨hregs, hflags, hstore, hpc⟩ := s.modifyBit_spec ea n f
  obtain ⟨-, hreadPc, -⟩ := s.read8_cpu ea
  exact ⟨hregs, hflags, _, fun k _ => getLsbD_setBit _ _ _ _ hn, hstore, hpc.trans hreadPc.symm⟩

/-! ## The four claims

A form's function of the old bit is the one that its meaning names. -/

/-- Settles O49: the eight forms replace bit `n` of the register by a function of its old value. -/
theorem bitWritesRegister : Obligations.BitWritesRegister := by
  intro s i rd n x hform
  suffices h : n < 8 ∧ ∃ f : Bool → Bool, exec i s = .next (s.modifyBitR rd n f) ∧ x = f ((s.r8 rd).getLsbD n) by
    obtain ⟨hn, f, hexec, rfl⟩ := h
    exact ⟨_, hexec, s.modifyBitR_bits rd hn f⟩
  rcases hform with ⟨bit, rfl, hop⟩ | ⟨rn, hn, hop⟩
  · refine ⟨bit.isLt, ?_⟩
    rcases hop with ⟨rfl, hx⟩ | ⟨rfl, hx⟩ | ⟨rfl, hx⟩ | ⟨rfl, hx⟩ | ⟨rfl, hx⟩ <;> exact ⟨_, rfl, hx⟩
  · obtain rfl := hn.trans (s.bitNumber_eq rn).symm
    refine ⟨s.bitNumber_lt rn, ?_⟩
    rcases hop with ⟨rfl, hx⟩ | ⟨rfl, hx⟩ | ⟨rfl, hx⟩ <;> exact ⟨_, rfl, hx⟩

/-- Settles O50: the sixteen forms do the same to the byte at the effective address. -/
theorem bitWritesMemory : Obligations.BitWritesMemory := by
  intro s i ea n x hform
  suffices h : n < 8 ∧ ∃ f : Bool → Bool,
      exec i s = .next (s.modifyBit ea n f) ∧ x = f ((s.read8 ea).1.getLsbD n) by
    obtain ⟨hn, f, hexec, rfl⟩ := h
    exact ⟨_, hexec, s.modifyBit_bits ea hn f⟩
  rcases hform with ⟨bit, _, rfl, rfl, hop⟩ | ⟨bit, _, rfl, rfl, hop⟩ | ⟨rn, _, hn, rfl, hop⟩ | ⟨rn, _, hn, rfl, hop⟩
  case inl | inr.inl =>
    refine ⟨bit.isLt, ?_⟩
    rcases hop with ⟨rfl, hx⟩ | ⟨rfl, hx⟩ | ⟨rfl, hx⟩ | ⟨rfl, hx⟩ | ⟨rfl, hx⟩ <;> exact ⟨_, rfl, hx⟩
  case inr.inr.inl | inr.inr.inr =>
    obtain rfl := hn.trans (s.bitNumber_eq rn).symm
    refine ⟨s.bitNumber_lt rn, ?_⟩
    rcases hop with ⟨rfl, hx⟩ | ⟨rfl, hx⟩ | ⟨rfl, hx⟩ <;> exact ⟨_, rfl, hx⟩

/-- Settles O51: the two register forms are one test of a byte, the four memory forms one read and test. -/
theorem bitTests : Obligations.BitTests := by
  refine ⟨fun s i rd n hform => ?_, fun s i ea n hform => ?_⟩
  · have hexec : exec i s = .next (s.testBit (s.r8 rd) n) := by
      rcases hform with ⟨_, rfl, rfl⟩ | ⟨rn, rfl, rfl⟩
      · rfl
      · rw [← s.bitNumber_eq rn]; rfl
    exact ⟨_, hexec, s.testBit_spec (s.r8 rd) n⟩
  · have hexec : exec i s = .next (s.testBitAt ea n) := by
      rcases hform with ⟨_, _, rfl, rfl, rfl⟩ | ⟨_, _, rfl, rfl, rfl⟩ | ⟨rn, _, rfl, rfl, rfl⟩ | ⟨rn, _, rfl, rfl, rfl⟩
      case inl | inr.inl => rfl
      case inr.inr.inl | inr.inr.inr => rw [← s.bitNumber_eq rn]; rfl
    exact ⟨_, hexec, s.testBitAt_spec ea n⟩

/-- Settles O52: the eight forms of an operand put a function of C and the bit into C. -/
theorem bitLogicIntoCarry : Obligations.BitLogicIntoCarry := by
  refine ⟨fun s i bit rd b c hb hform => ?_, fun s i bit ea b c hb hform => ?_⟩ <;> subst hb
  · suffices h : ∃ f : Bool → Bool → Bool, exec i s = .next (s.carryBit (s.r8 rd) bit.toNat f)
        ∧ c = f (s.flag .c) ((s.r8 rd).getLsbD bit.toNat) by
      obtain ⟨f, hexec, rfl⟩ := h
      exact ⟨_, hexec, s.carryBit_spec (s.r8 rd) bit.toNat f⟩
    rcases hform with ⟨rfl, hc⟩ | ⟨rfl, hc⟩ | ⟨rfl, hc⟩ | ⟨rfl, hc⟩ | ⟨rfl, hc⟩ | ⟨rfl, hc⟩ | ⟨rfl, hc⟩ | ⟨rfl, hc⟩ <;>
      exact ⟨_, rfl, hc⟩
  · suffices h : ∃ f : Bool → Bool → Bool, exec i s = .next (s.carryBitAt ea bit.toNat f)
        ∧ c = f (s.flag .c) ((s.read8 ea).1.getLsbD bit.toNat) by
      obtain ⟨f, hexec, rfl⟩ := h
      exact ⟨_, hexec, s.carryBitAt_spec ea bit.toNat f⟩
    rcases hform with ⟨_, rfl, hop⟩ | ⟨_, rfl, hop⟩
    case inl | inr =>
      rcases hop with ⟨rfl, hc⟩ | ⟨rfl, hc⟩ | ⟨rfl, hc⟩ | ⟨rfl, hc⟩ | ⟨rfl, hc⟩ | ⟨rfl, hc⟩ | ⟨rfl, hc⟩ | ⟨rfl, hc⟩ <;>
        exact ⟨_, rfl, hc⟩

end Sys2Proof.Machine
end

section
/-! SUPPORT. The claims about control transfer (44_control_transfer.md): a branch is one conditional write of PC, a jump one
write of PC, a call one push and one write of PC. A form's own part is its condition or its target. -/

namespace Sys2Proof.Machine

/-! ## Branches -/

/-- A branch taken changes PC alone, a branch not taken changes nothing (R262). -/
theorem State.branch_spec (s : State) (c : Cond) (disp : Long) :
    (s.holds c = true → s.branch c disp = { s with pc := wrap24 (s.pc + disp) })
      ∧ (s.holds c = false → s.branch c disp = s) := by
  refine ⟨fun htaken => ?_, fun hnot => ?_⟩
  · rw [State.branch, if_pos htaken, State.setPc_eq]
  · rw [State.branch, hnot, if_neg Bool.false_ne_true]

/-- Two forms that run the branch on `c` branch when `P` says so, `P` being what `c` means. -/
theorem branchesWhen_of_holds (c : Cond) {short : Byte → Instr} {long : Word → Instr} {P : State → Prop}
    (hshort : ∀ s d, exec (short d) s = .next (s.branch c (dispOf d)))
    (hlong : ∀ s d, exec (long d) s = .next (s.branch c (dispOf d)))
    (hP : ∀ s, s.holds c = true ↔ P s) : BranchesWhen short long P := by
  have hbranch : ∀ (s : State) (disp : Long),
      (P s → s.branch c disp = { s with pc := wrap24 (s.pc + disp) }) ∧ (¬ P s → s.branch c disp = s) := by
    intro s disp
    obtain ⟨htaken, hnot⟩ := s.branch_spec c disp
    rw [← hP s, Bool.not_eq_true]
    exact ⟨htaken, hnot⟩
  exact fun s => ⟨fun d => ⟨_, hshort s d, hbranch s _⟩, fun d => ⟨_, hlong s d, hbranch s _⟩⟩

/-- The complement of a condition, as a Boolean and as a statement. -/
theorem not_eq_true_iff_not {b : Bool} {p : Prop} (h : b = true ↔ p) : (!b) = true ↔ ¬p := by
  rw [← h, Bool.not_eq_true', Bool.not_eq_true]

/-! ## Targets in the ROM image -/

/-- The word at a vector address is read without side effect, whatever the address (R263, R264). -/
theorem State.read16_eaVector (s : State) (aa : Byte) : s.read16 (eaVector aa) = (wordAt s (aa.setWidth 16), s) :=
  Prod.ext (s.read16_value _) (s.read16_rom aa)

theorem exec_jmp_memInd (s : State) (aa : Byte) :
    exec (.jmp_memInd aa) s = .next (s.setPc ((wordAt s (aa.setWidth 16)).setWidth 32)) := by
  have hexec : exec (.jmp_memInd aa) s = execJmp_memInd aa s := rfl
  rw [hexec, execJmp_memInd, s.read16_eaVector aa]

theorem exec_jsr_memInd (s : State) (aa : Byte) :
    exec (.jsr_memInd aa) s = .next (s.call ((wordAt s (aa.setWidth 16)).setWidth 32)) := by
  have hexec : exec (.jsr_memInd aa) s = execJsr_memInd aa s := rfl
  rw [hexec, execJsr_memInd, s.read16_eaVector aa]

/-! ## The three claims -/

/-- Settles O54: the three jumps are one write of PC, the five calls one call. -/
theorem jumpsAndCalls : Obligations.JumpsAndCalls := by
  refine ⟨fun s i target hform => ?_, fun s i target hform => ?_⟩
  · have hexec : exec i s = .next (s.setPc target) := by
      rcases hform with ⟨_, rfl, rfl⟩ | ⟨_, rfl, rfl⟩ | ⟨aa, rfl, rfl⟩
      · rfl
      · rfl
      · exact exec_jmp_memInd s aa
    exact ⟨_, hexec, s.setPc_eq target⟩
  · have hexec : exec i s = .next (s.call target) := by
      rcases hform with ⟨_, rfl, rfl⟩ | ⟨_, rfl, rfl⟩ | ⟨aa, rfl, rfl⟩ | ⟨_, rfl, rfl⟩ | ⟨_, rfl, rfl⟩
      · rfl
      · rfl
      · exact exec_jsr_memInd s aa
      · rfl
      · rfl
    exact ⟨_, hexec, s.call_spec target⟩

/-- Settles O55: RTS is one pop into PC, RTE a pop into CCR and then one into PC. -/
theorem returns : Obligations.Returns := fun s =>
  ⟨⟨_, rfl, s.pop16_setPc_spec⟩, ⟨_, rfl, s.returnFromException_spec⟩⟩

/-- Settles O53. LS, LT and LE are spelled out of their Booleans, HI, GE and GT are their complements, and every other
condition is constant or one flag (R261). -/
theorem branches : Obligations.Branches := by
  have hls : ∀ s : State, s.holds .ls = true ↔ s.flag .c = true ∨ s.flag .z = true := fun _ => Bool.or_eq_true_iff
  have hlt : ∀ s : State, s.holds .lt = true ↔ s.flag .n ≠ s.flag .v := fun _ => Bool.xor_iff_ne
  have hle : ∀ s : State, s.holds .le = true ↔ s.flag .z = true ∨ s.flag .n ≠ s.flag .v := fun _ =>
    Bool.or_eq_true_iff.trans (or_congr_right Bool.xor_iff_ne)
  have hge : ∀ s : State, s.holds .ge = true ↔ s.flag .n = s.flag .v := fun s =>
    (not_eq_true_iff_not (hlt s)).trans not_ne_iff
  have hgt : ∀ s : State, s.holds .gt = true ↔ s.flag .z = false ∧ s.flag .n = s.flag .v := fun s =>
    (not_eq_true_iff_not (hle s)).trans (by rw [not_or, Bool.not_eq_true, not_ne_iff])
  have hclear : ∀ b : Bool, (!b) = true ↔ b = false := fun b => iff_of_eq (Bool.not_eq_true' b)
  exact ⟨
    branchesWhen_of_holds .ra (fun _ _ => rfl) (fun _ _ => rfl) fun _ => iff_of_true rfl trivial,
    branchesWhen_of_holds .rn (fun _ _ => rfl) (fun _ _ => rfl) fun _ => iff_of_false Bool.false_ne_true id,
    branchesWhen_of_holds .hi (fun _ _ => rfl) (fun _ _ => rfl) fun s => not_eq_true_iff_not (hls s),
    branchesWhen_of_holds .ls (fun _ _ => rfl) (fun _ _ => rfl) hls,
    branchesWhen_of_holds .cc (fun _ _ => rfl) (fun _ _ => rfl) fun _ => hclear _,
    branchesWhen_of_holds .cs (fun _ _ => rfl) (fun _ _ => rfl) fun _ => Iff.rfl,
    branchesWhen_of_holds .ne (fun _ _ => rfl) (fun _ _ => rfl) fun _ => hclear _,
    branchesWhen_of_holds .eq (fun _ _ => rfl) (fun _ _ => rfl) fun _ => Iff.rfl,
    branchesWhen_of_holds .vc (fun _ _ => rfl) (fun _ _ => rfl) fun _ => hclear _,
    branchesWhen_of_holds .vs (fun _ _ => rfl) (fun _ _ => rfl) fun _ => Iff.rfl,
    branchesWhen_of_holds .pl (fun _ _ => rfl) (fun _ _ => rfl) fun _ => hclear _,
    branchesWhen_of_holds .mi (fun _ _ => rfl) (fun _ _ => rfl) fun _ => Iff.rfl,
    branchesWhen_of_holds .ge (fun _ _ => rfl) (fun _ _ => rfl) hge,
    branchesWhen_of_holds .lt (fun _ _ => rfl) (fun _ _ => rfl) hlt,
    branchesWhen_of_holds .gt (fun _ _ => rfl) (fun _ _ => rfl) hgt,
    branchesWhen_of_holds .le (fun _ _ => rfl) (fun _ _ => rfl) hle⟩

end Sys2Proof.Machine
end

section
/-! SUPPORT. The claims about the system instructions (45_system.md): CCR with a register, an immediate or memory is one
write of CCR or one store of it; EEPMOV is its turns one after the other, each of which reads one byte and stores it. -/

namespace Sys2Proof.Machine

/-! ## CCR, NOP, SLEEP, TRAPA -/

/-- Settles O57: a write of CCR alone, a byte register result, or nothing. -/
theorem systemInstructions : Obligations.SystemInstructions := fun s =>
  ⟨fun _ => rfl, fun _ => rfl, fun _ => rfl, fun _ => rfl, fun _ => rfl,
    fun rd => ⟨_, rfl, s.onlyByte_setR8 rd s.ccr, rfl, s.sameWorld_setReg _ _, rfl⟩,
    rfl, rfl, fun _ => rfl⟩

/-- Settles O58: the five LDC forms of an address are one load of CCR, the five STC forms one store of it; the
post-increment and the pre-decrement form stand alone. -/
theorem ccrAndMemory : Obligations.CcrAndMemory := by
  refine ⟨fun s i ea hform => ?_, fun s ers => ⟨_, rfl, s.loadPostCcr_spec ers⟩, fun s i ea hform => ?_,
    fun s erd => ⟨_, rfl, s.storePreCcr_spec erd⟩⟩
  · have hexec : exec i s = .next (s.loadCcr ea) := by
      rcases hform with ⟨_, rfl, rfl⟩ | ⟨_, _, rfl, rfl⟩ | ⟨_, _, rfl, rfl⟩ | ⟨_, rfl, rfl⟩ | ⟨_, rfl, rfl⟩ <;> rfl
    exact ⟨_, hexec, s.loadCcr_spec ea⟩
  · have hexec : exec i s = .next (s.storeCcr ea) := by
      rcases hform with ⟨_, rfl, rfl⟩ | ⟨_, _, rfl, rfl⟩ | ⟨_, _, rfl, rfl⟩ | ⟨_, rfl, rfl⟩ | ⟨_, rfl, rfl⟩ <;> rfl
    exact ⟨_, hexec, s.storeCcr_spec ea⟩

/-! ## The addresses of a block

Turn `k` of EEPMOV, counted from 0, reads at `sourceAt k` and stores at `destAt k` (`State.moveBytes_eaInd`). -/

/-- The address of byte `k` of the source block (R291). -/
abbrev State.sourceAt (s : State) (k : Nat) : Word := s.eaInd 5 + BitVec.ofNat 16 k

/-- The address of byte `k` of the destination block (R291). -/
abbrev State.destAt (s : State) (k : Nat) : Word := s.eaInd 6 + BitVec.ofNat 16 k

/-- A block of at most 2^16 bytes does not meet itself. -/
theorem add_ofNat_inj (a : Word) {j k : Nat} (hj : j < 65536) (hk : k < 65536)
    (h : a + BitVec.ofNat 16 j = a + BitVec.ofNat 16 k) : j = k := by
  have := congrArg BitVec.toNat ((BitVec.add_right_inj a).1 h)
  simp only [BitVec.toNat_ofNat] at this
  omega

/-- RAM holds 2048 bytes in a row, and no more (R35). -/
theorem length_le_of_block_inRam {a : Word} {n : Nat} (h : ∀ k < n, InRam (a + BitVec.ofNat 16 k)) : n ≤ 2048 := by
  by_contra hn
  obtain ⟨hlow, -⟩ := h 0 (by omega)
  obtain ⟨hnext, hhigh⟩ := h 2048 (by omega)
  simp only [BitVec.toNat_add, BitVec.toNat_ofNat] at hlow hnext hhigh
  omega

/-- Byte `k` of the source lies where byte `j` of the destination does, `j` before `k`, just when the blocks are `k - j`
apart. -/
theorem State.sourceAt_eq_destAt_iff (s : State) {j k : Nat} (hj : j < k) (hk : k < 65536) :
    s.sourceAt k = s.destAt j ↔ k = j + (s.eaInd 6 - s.eaInd 5).toNat := by
  rw [← BitVec.toNat_inj]
  simp only [BitVec.toNat_add, BitVec.toNat_sub, BitVec.toNat_ofNat]
  have := (s.eaInd 5).isLt
  have := (s.eaInd 6).isLt
  omega

/-- While a block is stored to RAM from a source that reaches SSSR, SSRDR is not read before it: the two are too far
apart. -/
theorem State.sourceAt_ne_ssrdr (s : State) {j k : Nat} (hj : j < k) (hk : k < 2048) (h : s.sourceAt k = 0xF0E4) :
    s.sourceAt j ≠ 0xF0E9 := by
  intro h'
  have hsssr := congrArg BitVec.toNat h
  have hssrdr := congrArg BitVec.toNat h'
  simp only [BitVec.toNat_add, BitVec.toNat_ofNat, BitVec.reduceToNat] at hsssr hssrdr
  omega

/-! ## One turn after the others -/

/-- A byte of the destination in RAM ends as what its turn read: no other turn stores there. -/
theorem State.read8_moveBytes_destAt (s : State) {k n : Nat} (hkn : k < n) (hn : n ≤ 65536)
    (hram : InRam (s.destAt k)) :
    ((State.moveBytes n s).read8 (s.destAt k)).1 = ((State.moveBytes k s).read8 (s.sourceAt k)).1 := by
  induction n, hkn using Nat.le_induction with
  | base =>
    obtain ⟨hsource, hdest⟩ := State.moveBytes_eaInd k s
    have hcopied := (State.moveBytes k s).moveOneByte_copies (hdest ▸ hram)
    rwa [hdest, hsource, ← moveBytes_succ_last] at hcopied
  | succ n hkn ih =>
    obtain ⟨-, hdest⟩ := State.moveBytes_eaInd n s
    have hother : s.destAt k ≠ (State.moveBytes n s).eaInd 6 := by
      rw [hdest]
      intro h
      have := add_ofNat_inj _ (by omega) (by omega) h
      omega
    have hsssr : s.destAt k ≠ 0xF0E4 := fun h => absurd (h ▸ hram) (by decide)
    rw [moveBytes_succ_last, State.moveOneByte_other _ hsssr hother, ih (by omega)]

theorem State.read8_sssr (s : State) : (s.read8 0xF0E4).1 = s.ssu.sssr &&& 0x4F := rfl

/-- What turn `k` reads, if no turn before it has stored there: the byte before the block, or SSSR as it is by then. -/
theorem State.read8_moveBytes_sourceAt (s : State) {k : Nat} (hfresh : ∀ j < k, s.sourceAt k ≠ s.destAt j) :
    ((State.moveBytes k s).read8 (s.sourceAt k)).1
      = if s.sourceAt k = 0xF0E4 then (State.moveBytes k s).ssu.sssr &&& 0x4F else (s.read8 (s.sourceAt k)).1 := by
  split <;> rename_i hsssr
  · rw [hsssr, State.read8_sssr]
  · obtain ⟨-, -, -, -, -, -, -, -, -, hkept⟩ := State.moveBytes_spec k s
    exact hkept _ hsssr hfresh

/-- What turn `n` does to the SSU (R291, R325). -/
theorem State.moveBytes_succ_ssu (s : State) (n : Nat) :
    (State.moveBytes (n + 1) s).ssu
      = ssuStore (if s.sourceAt n = 0xF0E9 then
            { (State.moveBytes n s).ssu with sssr := (State.moveBytes n s).ssu.sssr &&& 0xFD }
          else (State.moveBytes n s).ssu)
        (s.destAt n, ((State.moveBytes n s).read8 (s.sourceAt n)).1) := by
  obtain ⟨hsource, hdest⟩ := State.moveBytes_eaInd n s
  rw [moveBytes_succ_last, State.moveOneByte_ssu, hsource, hdest]

/-- A block stored outside the SSU changes RDRF there at most (R325). -/
theorem State.moveBytes_ssu_of_outside (s : State) {n : Nat} (hdest : ∀ k < n, ¬ InSsu (s.destAt k)) :
    (State.moveBytes n s).ssu
      = if ∃ k < n, s.sourceAt k = 0xF0E9 then { s.ssu with sssr := s.ssu.sssr &&& 0xFD } else s.ssu := by
  induction n with
  | zero => simp [State.moveBytes]
  | succ n ih =>
    rw [s.moveBytes_succ_ssu, ssuStore_outside (hdest n (Nat.lt_succ_self n)), ih fun k hk => hdest k (by omega)]
    by_cases hlast : s.sourceAt n = 0xF0E9 <;> by_cases hbefore : ∃ k < n, s.sourceAt k = 0xF0E9 <;>
      simp only [Nat.exists_lt_succ_right, hlast, hbefore, or_true, or_false, if_true, if_false, BitVec.and_assoc,
        BitVec.and_self]

/-- A block none of whose source is overwritten before it is read: the SSU takes its bytes one after the other. -/
theorem State.moveBytes_ssu_eq_foldl (s : State) {n : Nat}
    (hfresh : ∀ j k, j < k → k < n → s.sourceAt k ≠ s.destAt j) :
    (State.moveBytes n s).ssu
      = ((List.range n).map fun k => (s.sourceAt k, s.destAt k)).foldl (blockSsu s) s.ssu := by
  induction n with
  | zero => rfl
  | succ n ih =>
    rw [s.moveBytes_succ_ssu, List.range_succ, List.map_append, List.foldl_append,
      ← ih fun j k hj hk => hfresh j k hj (by omega),
      s.read8_moveBytes_sourceAt fun j hj => hfresh j n hj (Nat.lt_succ_self n)]
    rfl

/-- Turn `k` of a block stored to RAM reads byte `k % d` of the source, `d` being how far the destination lies above it:
from turn `d` on it reads what turn `k - d` stored (R291). -/
theorem State.read8_moveBytes_sourceAt_of_inRam (s : State) {n : Nat} (hram : ∀ k < n, InRam (s.destAt k)) (k : Nat)
    (hk : k < n) : ((State.moveBytes k s).read8 (s.sourceAt k)).1
      = (s.read8 (s.sourceAt (k % (s.eaInd 6 - s.eaInd 5).toNat))).1 := by
  have hn : n ≤ 2048 := length_le_of_block_inRam hram
  induction k using Nat.strong_induction_on with
  | _ k ih =>
    have hmeet := fun j (hj : j < k) => sourceAt_eq_destAt_iff s hj (by omega)
    generalize (s.eaInd 6 - s.eaInd 5).toNat = d at hmeet ih ⊢
    by_cases hstored : 0 < d ∧ d ≤ k
    · obtain ⟨hpos, hle⟩ := hstored
      have hback : k - d < k := by omega
      rw [(hmeet (k - d) hback).2 (by omega), s.read8_moveBytes_destAt hback (by omega) (hram _ (by omega)),
        ih (k - d) hback (by omega), ← Nat.mod_eq_sub_mod hle]
    · have hfresh : ∀ j < k, s.sourceAt k ≠ s.destAt j := fun j hj h => by
        have := (hmeet j hj).1 h
        omega
      have hmod : k % d = k := by
        rcases Nat.eq_zero_or_pos d with rfl | hpos
        · exact Nat.mod_zero k
        · exact Nat.mod_eq_of_lt (by omega)
      rw [hmod, s.read8_moveBytes_sourceAt hfresh]
      split <;> rename_i hsssr
      · have hunread : ¬ ∃ j < k, s.sourceAt j = 0xF0E9 := fun ⟨j, hj, h⟩ =>
          s.sourceAt_ne_ssrdr hj (by omega) hsssr h
        rw [s.moveBytes_ssu_of_outside fun j hj h => h.not_inRam (hram j (by omega)), if_neg hunread, hsssr,
          State.read8_sssr]
      · rfl

/-! ## EEPMOV -/

/-- Both forms make their turns and then write ER4, whose count of at most 2^16 - 1 becomes 0 (R292, R293). -/
theorem exec_eepmov (s : State) {i : Instr} {n : Nat}
    (h : i = .eepmovB ∧ n = (s.r8 12).toNat ∨ i = .eepmovW ∧ n = (s.r16 4).toNat) :
    n < 65536 ∧ ∃ v, exec i s = .next ((State.moveBytes n s).setReg 4 v)
      ∧ (i = .eepmovB → v = (s.reg 4).extractLsb' 8 24 ++ 0#8)
      ∧ (i = .eepmovW → v = (s.reg 4).extractLsb' 16 16 ++ 0#16) := by
  obtain ⟨-, -, hother, -⟩ := State.moveBytes_spec n s
  have hcount : (State.moveBytes n s).reg 4 = s.reg 4 := hother 4 (by decide) (by decide)
  rw [← hcount]
  rcases h with ⟨rfl, rfl⟩ | ⟨rfl, rfl⟩
  · have := (s.r8 12).isLt
    exact ⟨by omega, _, rfl, fun _ => rfl, nofun⟩
  · exact ⟨(s.r16 4).isLt, _, rfl, nofun, fun _ => rfl⟩

/-- Settles O59: the registers and the frame are those of the turns, and ER4 is written after them; what a turn reads
and what becomes of the byte it stores are the lemmas above. -/
theorem blockMove : Obligations.BlockMove := by
  rintro s i n _ _ hform rfl rfl
  obtain ⟨hn, v, hexec, hb, hw⟩ := exec_eepmov s hform
  obtain ⟨h5, h6, hother, hflags, hpc, -, hrom, hparams, hinit, hkept⟩ := State.moveBytes_spec n s
  have hcopied := fun k (hk : k < n) => s.read8_moveBytes_destAt hk (Nat.le_of_lt hn)
  have hssu := s.moveBytes_ssu_of_outside (n := n)
  obtain ⟨h4, hregs⟩ := (State.moveBytes n s).onlyLong_setReg 4 v
  have hbytes := (State.moveBytes n s).setReg_read8 4 v
  refine ⟨_, hexec, (hregs 5 (by decide)).trans h5, (hregs 6 (by decide)).trans h6, fun h => h4.trans (hb h),
    fun h => h4.trans (hw h), fun m m4 m5 m6 => (hregs m m4).trans (hother m m5 m6), hflags, hpc, hrom, hparams, hinit,
    fun a hsssr hout => (hbytes a).trans (hkept a hsssr hout),
    fun a hram hnssu => (hbytes a).trans (State.read8_congr_fixed hrom hparams hram hnssu), fun hram k hk => ?_,
    fun hout => ⟨fun hread => (hssu hout).trans (if_pos hread), fun hunread => (hssu hout).trans (if_neg ?_)⟩,
    fun hfresh => ⟨s.moveBytes_ssu_eq_foldl hfresh, fun k hk hram hsssr => ?_⟩⟩
  · rw [hbytes, hcopied k hk (hram k hk), s.read8_moveBytes_sourceAt_of_inRam hram k hk]
  · rintro ⟨k, hk, h⟩
    exact hunread k hk h
  · rw [hbytes, hcopied k hk hram, s.read8_moveBytes_sourceAt fun j hj => hfresh j k hj hk, if_neg hsssr]

end Sys2Proof.Machine
end

section
/-! SUPPORT. The claim about words that no row matches (60_exceptions.md rule R301): the decoder decides on at most five
words, so the fetch ends on the word that rules every row out. -/

namespace Sys2Proof

/-! ## The decoder decides -/

/-- `f` asks for no more words once it has `k`. -/
def Decides (k : Nat) (f : Reader) : Prop := ∀ ws, k ≤ ws.length → f ws ≠ .needMore

section
variable {k : Nat}

@[simp] theorem decides_done {i : Instr} {n : Nat} : Decides k (done i n) := fun _ _ h => by cases h

@[simp] theorem decides_undef : Decides k undef := fun _ _ h => by cases h

@[simp] theorem decides_nextWord {g : Word → Reader} : Decides (k + 1) (nextWord g) ↔ ∀ w, Decides k (g w) := by
  constructor
  · exact fun h w ws hlen => h (w :: ws) (Nat.succ_le_succ hlen)
  · rintro h (_ | ⟨w, ws⟩) hlen
    · cases hlen
    · exact h w ws (Nat.le_of_succ_le_succ hlen)

@[simp] theorem decides_ite {c : Prop} [Decidable c] {f g : Reader} :
    Decides k (if c then f else g) ↔ (c → Decides k f) ∧ (¬ c → Decides k g) := by
  split <;> simp_all

@[simp] theorem decides_longReg {n : Nibble} {g : Reg3 → Reader} :
    Decides k (longReg n g) ↔ (n.msb = false → Decides k (g (lo3 n))) := by
  simp [longReg]

@[simp] theorem decides_zeroNibble {n : Nibble} {f : Reader} :
    Decides k (zeroNibble n f) ↔ (n = 0 → Decides k f) := by
  simp [zeroNibble]

@[simp] theorem decides_imm32Field {g : Long → Reader} (h : ∀ x, Decides k (g x)) :
    Decides (k + 2) (imm32Field g) := decides_nextWord.2 fun _ => decides_nextWord.2 fun _ => h _

@[simp] theorem decides_addr24Field {g : Long → Reader} (h : ∀ x, Decides k (g x)) :
    Decides (k + 2) (addr24Field g) :=
  decides_nextWord.2 fun _ => decides_ite.2 ⟨fun _ => decides_nextWord.2 fun _ => h _, fun _ => decides_undef⟩

end

/-! ## Each table decides on the words that follow the first -/

theorem decides_decode0 (b c d : Nibble) : Decides 4 (decode0 b c d) := by
  unfold decode0
  split <;> (try split) <;> simp

theorem decides_decode1 (b c d : Nibble) : Decides 4 (decode1 b c d) := by
  unfold decode1
  split <;> (try split) <;> simp

theorem decides_decode5 (b c d : Nibble) : Decides 4 (decode5 b c d) := by
  unfold decode5
  split <;> simp

theorem decides_decode6 (b c d : Nibble) : Decides 4 (decode6 b c d) := by
  unfold decode6
  split <;> (try split) <;> simp

theorem decides_decode78 (er : Reg3) : Decides 4 (decode78 er) :=
  decides_nextWord.2 fun w => by split <;> simp

theorem decides_decode79 (c rd : Nibble) : Decides 4 (decode79 c rd) := by
  unfold decode79
  split <;> simp

theorem decides_decode7A (c : Nibble) (erd : Reg3) : Decides 4 (decode7A c erd) := by
  unfold decode7A
  split <;> simp

theorem decides_decodeBitReadInd (er : Reg3) (w : Word) : Decides 3 (decodeBitReadInd er w) :=
  decides_zeroNibble.2 fun _ => by split <;> simp

theorem decides_decodeBitReadAa8 (aa : Byte) (w : Word) : Decides 3 (decodeBitReadAa8 aa w) :=
  decides_zeroNibble.2 fun _ => by split <;> simp

theorem decides_decodeBitWriteInd (er : Reg3) (w : Word) : Decides 3 (decodeBitWriteInd er w) :=
  decides_zeroNibble.2 fun _ => by split <;> simp

theorem decides_decodeBitWriteAa8 (aa : Byte) (w : Word) : Decides 3 (decodeBitWriteAa8 aa w) :=
  decides_zeroNibble.2 fun _ => by split <;> simp

theorem decides_decode7 (b c d : Nibble) : Decides 4 (decode7 b c d) := by
  unfold decode7
  split <;> (try split) <;>
    simp [decides_decode78, decides_decode79, decides_decode7A, decides_decodeBitReadInd, decides_decodeBitReadAa8,
      decides_decodeBitWriteInd, decides_decodeBitWriteAa8]

theorem decides_decode0100 : Decides 4 decode0100 :=
  decides_nextWord.2 fun w => by
    split
    case h_2 => exact decides_longReg.2 fun _ => by split <;> simp
    case h_5 => exact decides_zeroNibble.2 fun _ => decides_nextWord.2 fun x => by split <;> simp
    all_goals simp

theorem decides_decode0140 : Decides 4 decode0140 :=
  decides_nextWord.2 fun w => by
    split
    case h_2 => exact decides_zeroNibble.2 fun _ => by split <;> simp
    case h_5 =>
      exact decides_longReg.2 fun _ => decides_zeroNibble.2 fun _ => decides_nextWord.2 fun x => by split <;> simp
    all_goals simp

theorem decides_decode01 (c d : Nibble) : Decides 4 (decode01 c d) := by
  unfold decode01
  split
  case h_1 => exact decides_decode0100
  case h_2 => exact decides_decode0140
  case h_3 | h_7 => simp
  all_goals exact decides_nextWord.2 fun w => by split <;> simp

theorem decides_decodeNibbles (a b c d : Nibble) : Decides 4 (decodeNibbles a b c d) := by
  unfold decodeNibbles
  split <;> simp [decides_decode01, decides_decode0, decides_decode1, decides_decode5, decides_decode6, decides_decode7]

/-- No row has more than five words (R100), so five words are an instruction or rule every row out (R102). -/
theorem decides_decode : Decides maxWords decode := decides_nextWord.2 fun _ => decides_decodeNibbles _ _ _ _

/-- Words of which every part before the last asks for more are five at most. -/
theorem length_le_maxWords_of_needMore {ws : List Word} (h : ∀ k < ws.length, decode (ws.take k) = .needMore) :
    ws.length ≤ maxWords := by
  by_contra hlong
  have hlt : maxWords < ws.length := Nat.lt_of_not_le hlong
  exact decides_decode (ws.take maxWords) (by simp [hlt.le]) (h maxWords hlt)

end Sys2Proof

namespace Sys2Proof.Machine

/-! ## Words that no row matches -/

/-- The fetch stops on the word that rules every row out (R102, R114). -/
theorem State.fetchInstr_of_undefined {s : State} {ws : List Word} (hws : s.fetchedWords ws.length = ws)
    (h : decode ws = .undefinedOpcode) (hmore : ∀ k < ws.length, decode (ws.take k) = .needMore) :
    s.fetchInstr = ⟨none, ws, s.afterFetch ws.length⟩ := by
  have hne : ws ≠ [] := by rintro rfl; cases h
  exact (State.fetchFrom_spec ws [] s hws hne (fun k _ hk => hmore k hk) (length_le_maxWords_of_needMore hmore)).2 h

/-- The first word fetched is the one at PC (R101). -/
theorem State.headD_fetchedWords {s : State} {ws : List Word} (hws : s.fetchedWords ws.length = ws) (hne : ws ≠ []) :
    ws.headD 0 = wordAt s s.pc16 := by
  cases ws with
  | nil => exact absurd rfl hne
  | cons w ws =>
    obtain ⟨hfirst, -⟩ := s.fetch16_spec
    injection hws with hw
    exact hw.symm.trans hfirst

/-- Settles O6: the fetch ends without an instruction, in a state with the parameters of the first, and the policy
decides. -/
theorem undefinedOpcodeStep : Obligations.UndefinedOpcodeStep := by
  refine ⟨fun s ws hinit hws hundef hmore => ?_, fun s n => ?_⟩
  · obtain ⟨-, -, -, -, -, hparams, -⟩ := s.afterFetch_spec ws.length
    have hne : ws ≠ [] := by rintro rfl; cases hundef
    have hstep : step s = tick ((s.afterFetch ws.length).raiseUndefinedOpcode s.pc (wordAt s s.pc16)) := by
      rw [step, s.loadVector_spec.1 hinit, State.fetchInstr_of_undefined hws hundef hmore,
        ← State.headD_fetchedWords hws hne]
      rfl
    rw [hstep, State.raiseUndefinedOpcode, hparams]
    constructor
    · intro hnop
      rw [hnop, State.setPc_eq]
      rfl
    · intro hfault
      rw [hfault]
      rfl
  · obtain ⟨her, hccr, -, hrom, hram, hparams, hinit⟩ := s.afterFetch_spec n
    exact ⟨her, hccr, hrom, hram, hparams, hinit⟩

end Sys2Proof.Machine
end

section
/-! SUPPORT. The claims about the serial unit and the debug accessors (60_exceptions.md rules R316 to R336). A unit that
shifts a byte is known by what the prescaler has counted since the byte began. -/

namespace Sys2Proof.Machine

/-! ## The registers on the bus -/

/-- A read of a register is a read of the unit (R63). -/
theorem State.read8_ssuReg (s : State) (k : SsuReg) :
    s.read8 k.addr = (s.ssu.stored k &&& k.readMask, { s with ssu := (s.ssu.read k).2 }) := by
  cases k <;> rfl

/-- A write of a register is a write of the unit (R66). -/
theorem State.write8_ssuReg (s : State) (k : SsuReg) (v : Byte) :
    s.write8 k.addr v = { s with ssu := s.ssu.write k v } := by
  cases k <;> rfl

/-- A register without unused bits reads as stored (R36). -/
theorem State.read8_ssuReg_whole (s : State) {k : SsuReg} (h : k.readMask = 0xFF) :
    s.read8 k.addr = (s.ssu.stored k, { s with ssu := (s.ssu.read k).2 }) := by
  rw [s.read8_ssuReg, h]
  congr 1
  exact BitVec.and_allOnes

theorem Ssu.sstdr_write (u : Ssu) (v : Byte) : (u.write .sstdr v).sstdr = v := by
  unfold Ssu.write Ssu.writeSstdr
  simp only
  split <;> rfl

/-- The unit as a transfer of `v` starts, but for its counters (R326). -/
def Ssu.started (u : Ssu) (v : Byte) : Ssu := { u with sstdr := v, sstrsr := v, sssr := setBit u.sssr 3 false }

/-- The unit when the prescaler has counted `n` in all since the byte began: the bit counter is its carry (R328). -/
def Ssu.counted (u : Ssu) (n : Nat) : Ssu := { u with clockCounter := n % 256, bitCounter := n / 256 }

theorem Ssu.write_sstdr_of_idle {u : Ssu} (h : u.tend = true) (v : Byte) :
    u.write .sstdr v = (u.started v).counted 0 := if_pos h

theorem Ssu.write_sstdr_of_transferring {u : Ssu} (h : u.tend = false) (v : Byte) :
    u.write .sstdr v = { u with sstdr := v, sssr := setBit u.sssr 2 false } := if_neg (by simp [h])

/-- Settles O20: every register is read and written through the unit; SSTDR alone has a write of two cases. -/
theorem ssuRegisterAccess : Obligations.SsuRegisterAccess := by
  refine ⟨fun s => ⟨s.read8_ssuReg_whole (k := .sscrh) rfl, s.read8_ssuReg .sscrl, s.read8_ssuReg .ssmr,
    s.read8_ssuReg .sser, s.read8_ssuReg .sssr, s.read8_ssuReg_whole (k := .ssrdr) rfl,
    s.read8_ssuReg_whole (k := .sstdr) rfl⟩, fun s v => ⟨s.write8_ssuReg .sscrh v, s.write8_ssuReg .sscrl v,
    s.write8_ssuReg .ssmr v, s.write8_ssuReg .sser v, s.write8_ssuReg .ssrdr v, s.ssu.sstdr_write v,
    s.write8_ssuReg .sssr v, fun k hk => ?_⟩⟩
  have hand : (s.ssu.sssr &&& v).getLsbD k = true := hk
  simpa using hand

/-- Settles O21: the write is decided by TEND. -/
theorem sstdrWrite : Obligations.SstdrWrite := by
  refine ⟨fun s => ⟨s.read8_ssuReg_whole (k := .sstdr) rfl, rfl⟩, fun s v => ⟨fun h => ?_, fun h => ?_⟩⟩
  · refine (s.write8_ssuReg .sstdr v).trans ?_
    rw [Ssu.write_sstdr_of_idle h]
    rfl
  · refine (s.write8_ssuReg .sstdr v).trans ?_
    rw [Ssu.write_sstdr_of_transferring h]
    rfl

/-! ## One cycle -/

theorem Ssu.cycle_of_idle {u : Ssu} (h : u.tend = true) (rx : Byte) : u.cycle rx = u := if_pos h

theorem Ssu.cycle_of_transferring {u : Ssu} (h : u.tend = false) (rx : Byte) :
    u.cycle rx = if u.advance.bitCounter = 8 then u.advance.endOfByte rx else u.advance := if_neg (by simp [h])

/-- CKS is the low three bits of SSMR, as a number (R39). -/
theorem Ssu.cks_eq (u : Ssu) : u.cks = u.ssmr.toNat % 8 := by
  simp [Ssu.cks]

/-- The step of the prescaler writes the two counters alone (R328). -/
theorem Ssu.advance_eq (u : Ssu) : u.advance = { u with
    clockCounter :=
      if 256 ≤ u.clockCounter + 2 ^ u.cks then u.clockCounter + 2 ^ u.cks - 256 else u.clockCounter + 2 ^ u.cks
    bitCounter := if 256 ≤ u.clockCounter + 2 ^ u.cks then u.bitCounter + 1 else u.bitCounter } := by
  unfold Ssu.advance
  split <;> rfl

/-- SSSR, from its value `b` before, at the end of a byte (R328): bit 3 or bit 2 is set for the transmit side, bit 6 for
an overrun, and bit 1 in any case. -/
def statusAfterByte (b : Byte) : Byte :=
  let sent := setBit b (if b.getLsbD 2 then 3 else 2) true
  setBit (if b.getLsbD 1 then setBit sent 6 true else sent) 1 true

/-- The bits that come out, the byte having begun with TEND clear. -/
theorem statusAfterByte_bits {b : Byte} (h : b.getLsbD 3 = false) :
    (statusAfterByte b).getLsbD 7 = b.getLsbD 7 ∧ (statusAfterByte b).getLsbD 6 = (b.getLsbD 6 || b.getLsbD 1)
      ∧ (statusAfterByte b).getLsbD 5 = b.getLsbD 5 ∧ (statusAfterByte b).getLsbD 4 = b.getLsbD 4
      ∧ (statusAfterByte b).getLsbD 3 = b.getLsbD 2 ∧ (statusAfterByte b).getLsbD 2 = true
      ∧ (statusAfterByte b).getLsbD 1 = true ∧ (statusAfterByte b).getLsbD 0 = b.getLsbD 0 := by
  unfold statusAfterByte
  cases hsent : b.getLsbD 2 <;> cases b.getLsbD 1 <;>
    simp [getLsbD_setBit, h, hsent, -BitVec.getLsbD_eq_getElem]

/-- The end of a byte (R328), field by field. -/
theorem Ssu.endOfByte_eq (u : Ssu) (rx : Byte) : u.endOfByte rx = { u with
    sstrsr := if u.tdre then u.sstrsr else u.sstdr
    ssrdr := if u.rdrf then u.ssrdr else rx
    sssr := statusAfterByte u.sssr
    bitCounter := 0 } := by
  have hrdrf : u.endTransmit.rdrf = u.rdrf := by
    unfold Ssu.endTransmit
    split <;> exact getLsbD_setBit _ _ _ _ (by decide)
  have hstatus : statusAfterByte u.sssr
      = setBit (if u.rdrf then setBit (setBit u.sssr (if u.tdre then 3 else 2) true) 6 true
          else setBit u.sssr (if u.tdre then 3 else 2) true) 1 true := rfl
  rw [hstatus, Ssu.endOfByte, Ssu.endReceive, hrdrf, Ssu.endTransmit]
  cases u.tdre <;> cases u.rdrf <;> rfl

/-- Settles O22: the prescaler's step, and then the end of a byte if it made eight bits. -/
theorem ssuCycle : Obligations.SsuCycle := by
  intro u rx
  refine ⟨fun h => Ssu.cycle_of_idle h rx, fun h p b hp hb => ?_⟩
  have hadvance : u.advance = { u with clockCounter := p, bitCounter := b } := by
    rw [hp, hb, ← u.cks_eq, u.advance_eq]
  have hcycle := Ssu.cycle_of_transferring h rx
  rw [hadvance] at hcycle
  refine ⟨fun hne => hcycle.trans (if_neg hne), fun heq => ?_⟩
  rw [hcycle.trans (if_pos heq), Ssu.endOfByte_eq]
  exact ⟨rfl, rfl, rfl, rfl, rfl, rfl, rfl, rfl, rfl, statusAfterByte_bits h⟩

/-! ## A byte, tick by tick -/

theorem Ssu.cycles_succ_last (rx : Byte) (n : Nat) (u : Ssu) :
    Ssu.cycles rx (n + 1) u = (Ssu.cycles rx n u).cycle rx := by
  induction n generalizing u with
  | zero => rfl
  | succ n ih => exact ih (u.cycle rx)

theorem Ssu.advance_counted (u : Ssu) (n : Nat) : (u.counted n).advance = u.counted (n + 2 ^ u.cks) := by
  have hstep := cks_pow_le u
  have hcks : (u.counted n).cks = u.cks := rfl
  have hclock : (u.counted n).clockCounter = n % 256 := rfl
  rw [Ssu.advance, hcks, hclock]
  generalize 2 ^ u.cks = step at hstep
  split <;> simp only [Ssu.counted, Ssu.mk.injEq, true_and] <;> omega

/-- One tick: the prescaler's step, and the end of the byte at the eighth bit (R328). -/
theorem Ssu.cycle_counted {u : Ssu} (h : u.tend = false) (rx : Byte) (n : Nat) :
    (u.counted n).cycle rx = if (n + 2 ^ u.cks) / 256 = 8 then (u.counted (n + 2 ^ u.cks)).endOfByte rx
      else u.counted (n + 2 ^ u.cks) := by
  rw [Ssu.cycle_of_transferring (u := u.counted n) h, Ssu.advance_counted]
  rfl

/-- Before the eighth bit every tick is a step of the prescaler. -/
theorem Ssu.cycles_counted {u : Ssu} (h : u.tend = false) (rx : Byte) {k : Nat} (hk : k * 2 ^ u.cks < 2048) :
    Ssu.cycles rx k (u.counted 0) = u.counted (k * 2 ^ u.cks) := by
  induction k with
  | zero => rw [Nat.zero_mul]; rfl
  | succ k ih =>
    rw [Nat.succ_mul] at hk ⊢
    have hbits : (k * 2 ^ u.cks + 2 ^ u.cks) / 256 < 8 := Nat.div_lt_of_lt_mul hk
    rw [Ssu.cycles_succ_last, ih (Nat.lt_of_le_of_lt (Nat.le_add_right ..) hk), Ssu.cycle_counted h, if_neg hbits.ne]

/-- The prescaler's step divides what eight bits take (R329). -/
theorem Ssu.ticks_mul_step (u : Ssu) : 2048 >>> u.cks * 2 ^ u.cks = 2048 := by
  have hcks : u.cks ≤ 11 := by rw [u.cks_eq]; omega
  rw [Nat.shiftRight_eq_div_pow]
  exact Nat.div_mul_cancel (Nat.pow_dvd_pow 2 hcks : 2 ^ u.cks ∣ 2 ^ 11)

theorem Ssu.mul_step_lt {u : Ssu} {k : Nat} (hk : k < 2048 >>> u.cks) : k * 2 ^ u.cks < 2048 :=
  calc k * 2 ^ u.cks < 2048 >>> u.cks * 2 ^ u.cks := Nat.mul_lt_mul_of_pos_right hk (Nat.two_pow_pos _)
    _ = 2048 := u.ticks_mul_step

/-- The last tick of a byte makes the eighth bit. -/
theorem Ssu.cycles_byte {u : Ssu} (h : u.tend = false) (rx : Byte) :
    Ssu.cycles rx (2048 >>> u.cks) (u.counted 0) = (u.counted 2048).endOfByte rx := by
  have hall := u.ticks_mul_step
  obtain ⟨k, hk⟩ : ∃ k, 2048 >>> u.cks = k + 1 := Nat.exists_eq_succ_of_ne_zero (by rintro h0; simp [h0] at hall)
  have hlast : k * 2 ^ u.cks < 2048 := Ssu.mul_step_lt (hk ▸ Nat.lt_succ_self k)
  rw [hk, Nat.succ_mul] at hall
  rw [hk, Ssu.cycles_succ_last, Ssu.cycles_counted h rx hlast, Ssu.cycle_counted h, hall, if_pos rfl]

/-- Settles O23: the write starts a byte with nothing counted; every tick but the last counts, and the last ends the
byte. -/
theorem ssuByteTime : Obligations.SsuByteTime := by
  intro u v rx hidle
  have hbit : ∀ j, (u.started v).sssr.getLsbD j = if j = 3 then false else u.sssr.getLsbD j :=
    fun j => getLsbD_setBit _ _ _ _ (by decide)
  have hcks : (u.started v).cks = u.cks := rfl
  rw [Ssu.write_sstdr_of_idle hidle, ← hcks]
  refine ⟨fun k hk => ?_, ?_⟩
  · rw [Ssu.cycles_counted (hbit 3) rx (Ssu.mul_step_lt hk)]
    exact ⟨hbit 3, hbit 1, rfl, rfl⟩
  · have hunread : ((u.started v).counted 2048).rdrf = u.rdrf := hbit 1
    obtain ⟨-, horer, -, -, htend, -, hrdrf, -⟩ := statusAfterByte_bits (hbit 3)
    rw [hbit 6, hbit 1] at horer
    rw [Ssu.cycles_byte (hbit 3) rx, Ssu.endOfByte_eq, hunread]
    exact ⟨htend.trans (hbit 2), hrdrf, horer, rfl, rfl, rfl⟩

/-! ## The debug accessors -/

/-- Settles O60: a register write is one of the three, and memory is the bus. -/
theorem debugAccessors : Obligations.DebugAccessors := by
  intro s v
  refine ⟨fun n => ?_, rfl, s.setPc_eq v, rfl, ?_, fun _ => rfl, fun _ _ => rfl⟩
  · obtain ⟨hreg, hflags, hworld, hpc⟩ := s.setReg_spec n v
    exact ⟨rfl, hreg, ⟨hworld, hpc⟩, hflags⟩
  · rw [State.writeRegister, BitVec.setWidth_eq_extractLsb' (by decide)]

end Sys2Proof.Machine
end

section
/-! SUPPORT. The claims about reset, the vector load and the answers of a step (70_reset_and_hazards.md rules R350, R353,
R354). What stops a step can only be the fetch's one event: every instruction completes. -/

namespace Sys2Proof.Machine

/-! ## Every step answers -/

/-- Every instruction has a next state in every state (R304, R354). -/
theorem exec_next (i : Instr) (s : State) : ∃ t, exec i s = .next t := by
  obtain ⟨t, hexec, -⟩ := exec_updates i s
  exact ⟨t, hexec⟩

/-- The policy that settles an undefined opcode is the one that was set before the step (R47, R301). -/
theorem State.fetchInstr_loadVector_params (s : State) : s.loadVector.fetchInstr.state.params = s.params := by
  have hfetch : Updates False False s.loadVector s.loadVector.fetchInstr.state := Updates.refl.fetchFrom _ _
  obtain ⟨-, hparams, -, -⟩ := hfetch.keeps
  obtain ⟨-, vparams, -, -⟩ := s.loadVector_keeps
  exact hparams.trans vparams

/-- The event goes on under one policy and stops under the other (R301). -/
theorem State.raiseUndefinedOpcode_cases (s : State) (a : Long) (w : Word) :
    (s.params.undefinedOpcode = .nopAdvance2 ∧ s.raiseUndefinedOpcode a w = .next (s.setPc (a + 2)))
      ∨ (s.params.undefinedOpcode = .fault ∧ s.raiseUndefinedOpcode a w = .fault (.undefinedOpcode a w)) := by
  unfold State.raiseUndefinedOpcode
  cases hpolicy : s.params.undefinedOpcode with
  | nopAdvance2 => exact .inl ⟨rfl, rfl⟩
  | fault => exact .inr ⟨rfl, rfl⟩

/-- All that a step can answer (R354): a next state, or under the policy `fault` the event, with the address that the
fetch began at and the first word read (R301). -/
theorem step_cases (s : State) :
    (∃ t, step s = .next t)
      ∨ (s.params.undefinedOpcode = .fault
          ∧ step s = .fault (.undefinedOpcode s.loadVector.pc s.loadVector.fetchInstr.firstWord)) := by
  unfold step runFetched
  split
  · rename_i i _
    obtain ⟨t, hexec⟩ := exec_next i s.loadVector.fetchInstr.state
    exact .inl ⟨t.busCycle, congrArg tick hexec⟩
  · rcases s.loadVector.fetchInstr.state.raiseUndefinedOpcode_cases s.loadVector.pc
      s.loadVector.fetchInstr.firstWord with ⟨-, hraise⟩ | ⟨hpolicy, hraise⟩
    · exact .inl ⟨_, congrArg tick hraise⟩
    · exact .inr ⟨s.fetchInstr_loadVector_params ▸ hpolicy, congrArg tick hraise⟩

/-- Settles O7: every instruction completes, and a step that has no next state stopped by the policy `fault`. -/
theorem stepAlwaysAnswers : Obligations.StepAlwaysAnswers := by
  refine ⟨exec_next, fun s hnop => ?_, fun s r hrefused => ?_, fun s f hf => ?_⟩ <;>
    rcases step_cases s with ⟨t, hstep⟩ | ⟨hpolicy, hstep⟩
  · exact ⟨t, hstep⟩
  · cases hnop.symm.trans hpolicy
  · cases hstep.symm.trans hrefused
  · cases hstep.symm.trans hrefused
  · cases hstep.symm.trans hf
  · cases hstep.symm.trans hf
    exact ⟨hpolicy, _, _, rfl⟩

/-! ## Reset -/

/-- The registers after `reset()` (R45). -/
@[simp] theorem State.hostReset_reg (s : State) (n : Reg3) : s.hostReset.reg n = 0 :=
  Vector.getElem_replicate n.isLt

/-- RAM after `reset()` lists no byte, so each reads as 0 (R35, R45). -/
theorem State.hostReset_read8_of_inRam (s : State) {a : Word} (h : InRam a) : (s.hostReset.read8 a).1 = 0 := by
  simp only [State.read8, decodeAddr_of_inRam h]
  rfl

/-- `reset()` looks at the ROM image, the parameters and the count of free values alone (R350, assumption 2). -/
theorem State.hostReset_congr {s t : State} (hrom : s.rom = t.rom) (hparams : s.params = t.params) :
    s.hostReset = { t.hostReset with freeIndex := s.freeIndex } := by
  rw [State.hostReset, State.hostReset, hrom, hparams]

/-- Settles O1: the registers and RAM by their laws, every other element as the reset state lists it. -/
theorem resetState : Obligations.ResetState := by
  refine ⟨fun s => ⟨s.hostReset_reg, rfl, rfl, rfl, fun _ ha => s.hostReset_read8_of_inRam ha, rfl, rfl, rfl, rfl, rfl,
    rfl, rfl, rfl, rfl, rfl, rfl, rfl⟩, fun s t hrom hparams => ?_, rfl, rfl⟩
  rw [State.hostReset_congr hrom hparams]

/-! ## The vector load -/

/-- The vector is loaded once (R32, R353). -/
@[simp] theorem State.loadVector_loadVector (s : State) : s.loadVector.loadVector = s.loadVector := by
  obtain ⟨-, -, hinit, -⟩ := s.loadVector_keeps
  exact s.loadVector.loadVector_spec.1 hinit

/-- A step is the same step from the state with the vector loaded (R353). -/
theorem step_loadVector (s : State) : step s.loadVector = step s := by
  simp only [step, State.loadVector_loadVector]

/-- Settles O4: the load by its law; a second load finds nothing to do, so the step goes on as from there. -/
theorem firstStepLoadsVector : Obligations.FirstStepLoadsVector :=
  ⟨fun s hunset => ⟨s.loadVector_spec.2 hunset, (step_loadVector s).symm⟩, fun s hset => s.loadVector_spec.1 hset⟩

end Sys2Proof.Machine
end
